-- ==== Sys2Proof/Word.lean ====
section
/-! DEFINITION. The word types of the part: bytes of the host line, 16-bit and 32-bit counters, 24-bit tags. -/

namespace Sys2Proof

/-- One byte of the host line (R131). -/
abbrev Byte := BitVec 8

/-- Sequence numbers, generations, capture and event numbers, check values (R11, R57, R165, R174, R134). -/
abbrev Word16 := BitVec 16

/-- The stamp counter, stamps and the counters of an ingress (R13, R49). -/
abbrev Word32 := BitVec 32

/-- A frame's tag, or a tag pattern of a window (R1, R55). -/
abbrev Tag := BitVec 24

/-- One level of a segment line: `false` is dominant (bit value 0), `true` is recessive (bit value 1) (chapter 1). -/
abbrev Level := Bool

end Sys2Proof
end

