-- ==== Sys2Proof/Config.lean ====
section
/-! DEFINITION. What this part fixes: its capacities and the identity it reports. The spec leaves no value of the part
open (INVENTORY.md, "What the manual leaves open"), so nothing here is a free value. -/

namespace Sys2Proof.Config

/-- Slots of the frame store (R14). -/
abbrev slotCount : Nat := 96

/-- Tap receivers (chapter 3). -/
abbrev tapCount : Nat := 6

/-- Ingresses with tables, quotas and counters: six taps and the trunk receiver (R10). -/
abbrev ingressCount : Nat := 7

/-- Host transmit entries (R85). -/
abbrev entryCount : Nat := 8

/-- Windows of a table (R54). -/
abbrev windowCount : Nat := 8

/-- Longest payload of a valid frame, in bytes (R1). -/
abbrev maxPayload : Nat := 32

/-- Entries the relay queue holds (R82). -/
abbrev relayCapacity : Nat := 64

/-- Entries the delivery queue holds (R164). -/
abbrev deliveryCapacity : Nat := 32

/-- Records the event queue holds (R174). -/
abbrev eventCapacity : Nat := 16

/-- Requests the inbox holds (R153). -/
abbrev inboxCapacity : Nat := 4

/-- Entries the reply cache holds (R156). -/
abbrev cacheCapacity : Nat := 8

/-- Queued replies at which a reply produced at an arrival is no longer queued (R143). -/
abbrev arrivalReplyBound : Nat := 8

/-- Bound on queued replies plus parked requests under which a request is executed (R143). -/
abbrev executionBound : Nat := 16

/-- Outcomes the health history keeps (R120). -/
abbrev historyLength : Nat := 16

/-- Recessive bit times of an idle gap (R2). -/
abbrev idleGap : Nat := 12

/-- The vendor code of the HELLO reply (R148). -/
def vendorCode : Word16 := 0x0A31#16

/-- The part code of the HELLO reply (R148). -/
def partCode : Word16 := 0x0627#16

/-- The revision of the HELLO reply (R148). -/
def revision : Byte := 0x03#8

end Sys2Proof.Config
end

