-- ==== Sys2Proof/Syntax.lean ====
section
/-! DEFINITION. The commands of the part: one constructor per row of spec/opcode_table.json, in the table's order.
A line event carries what the line showed; a request execution carries nothing, since the request engine executes the
oldest request of its inbox and reads the fields from that request's body (R153, R195). -/

namespace Sys2Proof

/-- A tap receiver T0 to T5 (chapter 3). -/
abbrev TapNo := Fin Config.tapCount

/-- A command of the part. `bits` are the levels of a segment line from the start delimiter to the bit at which the end of
frame is delivered (R4). `read` are the levels read back from the trunk from the start delimiter to the bit at which the
outcome is delivered (R8, R9). `br1` and `br0` are the levels of the strap pins at the event (R131). -/
inductive Instr where
  | powerReset (br1 br0 : Bool)
  /-- `correct`: whether the pass of the memory check found every byte correct (R184). -/
  | memoryCheckCompleted (correct : Bool)
  | tapStartOfFrame (tap : TapNo)
  | tapEndOfFrame (tap : TapNo) (bits : List Level)
  | tapIdleGap (tap : TapNo)
  | tapResynchronised (tap : TapNo)
  | trunkStartOfFrame
  | trunkEndOfFrame (bits : List Level)
  | trunkJoinIdleGap
  | trunkReceiverResync
  | transmitOpportunity
  | outcomeSent (read : List Level)
  | outcomeLost (read : List Level)
  | outcomeFault (read : List Level)
  | framingError
  /-- `len`: the LEN byte received (R135). -/
  | badLength (len : Byte)
  | gapExpiry
  /-- `low`: the second CHECK byte (R136). -/
  | messageReceived (low : Byte)
  | lineBreak
  | outboundChoice
  | replyCompleted (br1 br0 : Bool)
  | captureCompleted
  | txDoneCompleted
  | eventCompleted
  | badRequest
  | hello
  | status
  | start
  | stop
  | reset
  | setTap
  | openTap
  | closeTap
  | setQuota
  | setWindow
  | setDefault
  | readWindow
  | commit
  | discardStaged
  | setRelay
  | holdRelay
  | releaseRelay
  | flushRelay
  | send
  | cancel
  | setTrunk
  | attach
  | detach
  | resume
  | grant
  | ack
  | resend
  | discardCaptures
  | byteReceived (byte : Byte)
  deriving DecidableEq, Repr

end Sys2Proof
end

