-- ==== Sys2Proof/Machine/State.lean ====
section
/-! DEFINITION. The state of the part, block by block as chapter 0 lists the blocks, its value right after a power reset,
and the reasons a step can stop. Plain data throughout. -/

namespace Sys2Proof.Machine

/-- A slot of the frame store (R14). -/
abbrev SlotNo := Fin Config.slotCount

/-- An ingress with tables, quota and counters: 0 to 5 the taps, 6 the trunk receiver (R10). -/
abbrev IngressNo := Fin Config.ingressCount

/-- A host transmit entry E0 to E7 (R85). -/
abbrev EntryNo := Fin Config.entryCount

/-- A window of a table (R54). -/
abbrev WindowNo := Fin Config.windowCount

/-! ## Names of states, kinds and reasons -/

/-- The part state (R182). -/
inductive PartState where
  | booting | config | run | stopping
  deriving DecidableEq, Repr

/-- The state of a tap (R35). -/
inductive TapState where
  | off | sync | listen | closing
  deriving DecidableEq, Repr

/-- The state of the trunk port (R109). -/
inductive TrunkState where
  | detached | joining | active | degraded | suspended
  deriving DecidableEq, Repr

/-- The state of a host entry (R85). -/
inductive EntryState where
  | free | pending | inFlight | done
  deriving DecidableEq, Repr

/-- The outcome of a host entry (R85). -/
inductive EntryOutcome where
  | sent | abandoned | cancelled | stopped
  deriving DecidableEq, Repr

/-- The bit rate of a segment line (R2). -/
inductive Rate where
  | kbit125 | kbit250 | kbit500 | kbit1000
  deriving DecidableEq, Repr

/-- Where a frame's stamp is taken (R13). -/
inductive StampPoint where
  | sof | eof
  deriving DecidableEq, Repr

/-- The kind of a frame (R1). -/
inductive FrameKind where
  | data | query
  deriving DecidableEq, Repr

/-- The kinds a window accepts (R55). -/
inductive Kinds where
  | data | query | any
  deriving DecidableEq, Repr

/-- Where a frame goes (R55, R56). -/
inductive Target where
  | drop | relay | host | both
  deriving DecidableEq, Repr

/-- The two copies of an ingress's table (R54). -/
inductive Copy where
  | active | staged
  deriving DecidableEq, Repr

/-- The relay gate, OPEN or HELD (R84). -/
inductive Gate where
  | opened | held
  deriving DecidableEq, Repr

/-- The state of a delivery queue entry (R164). -/
inductive CaptureState where
  | waiting | sending | sent
  deriving DecidableEq, Repr

/-- What becomes of a SENDING entry when its notice completes (R164). -/
inductive CompletionMark where
  | none | toReturn | toRemove
  deriving DecidableEq, Repr

/-- Why a start of frame got no slot (R21). -/
inductive SlotRefusal where
  | noSlot | overQuota
  deriving DecidableEq, Repr

/-- The session state (R146). -/
inductive SessionState where
  | closed | opened
  deriving DecidableEq, Repr

/-- The status of a reply (R158). -/
inductive Status where
  | ok | deferred | full | noSession | badRequest | badValue | state | busy
  deriving DecidableEq, Repr

/-! ## Frames and slots -/

/-- What a valid frame hands on: tag, kind, length and payload (R5). -/
structure Frame where
  tag : Tag
  kind : FrameKind
  length : Nat
  payload : List Byte
  deriving DecidableEq, Repr

/-- The source of a slot's frame: an ingress 0 to 6, or HOST, ingress 7 (R10). -/
inductive Source where
  | ingress (i : IngressNo)
  | host
  deriving DecidableEq, Repr

/-- The holder set of a slot (R16). -/
structure Holders where
  relay : Bool := false
  delivery : Bool := false
  entry : Bool := false
  deriving DecidableEq, Repr

/-- What classification writes beside tag out: the generation and the window index, 8 for the default action (R71). -/
structure Classified where
  generation : Word16
  windowIndex : Nat
  deriving DecidableEq, Repr

/-- The record of a HELD slot (R14). `seq` and `classified` are absent for ingress 7. -/
structure SlotRecord where
  seq : Option Word16
  tagReceived : Tag
  tagOut : Tag
  kind : FrameKind
  length : Nat
  payload : List Byte
  stamp : Word32
  classified : Option Classified
  deriving DecidableEq, Repr

/-- A slot. While FREE it holds nothing, while FILLING only its ingress, while HELD its whole record (R14, R15). -/
inductive Slot where
  | free
  | filling (i : IngressNo)
  | held (source : Source) (record : SlotRecord) (holders : Holders)
  deriving DecidableEq, Repr

/-- The frame store: slots, free list, use and quota (R14, R17, R18). -/
structure Store where
  slots : Vector Slot Config.slotCount
  freeList : List SlotNo
  use : Vector Nat Config.ingressCount
  quota : Vector Nat Config.ingressCount
  deriving DecidableEq, Repr

/-! ## Ingresses and taps -/

/-- A window record (R55). -/
structure Window where
  enabled : Bool
  matchTag : Tag
  mask : Tag
  kinds : Kinds
  longest : Nat
  targets : Target
  rewrite : Option Tag
  deriving DecidableEq, Repr

/-- A window table: eight windows and a default action (R54, R56). -/
structure Table where
  windows : Vector Window Config.windowCount
  default : Target
  deriving DecidableEq, Repr

/-- The eight counters of an ingress, in the order STATUS reports them (R51). -/
structure Counters where
  valid : Word32
  invalidCheck : Word32
  invalidFormat : Word32
  noSlot : Word32
  overQuota : Word32
  windowDrop : Word32
  relayFull : Word32
  deliveryFull : Word32
  deriving DecidableEq, Repr

/-- What each of ingresses 0 to 6 holds beside its quota and use (R10): settings, sequence number, counters, DROPS latch,
tables and generation. -/
structure Ingress where
  rate : Rate
  stampPoint : StampPoint
  nextSeq : Word16
  counters : Counters
  dropsLatch : Bool
  active : Table
  staged : Table
  generation : Word16
  deriving DecidableEq, Repr

/-- A frame between its start and its end: in a FILLING slot with its SOF stamp, or unstored with the reason (R35). -/
inductive InProgress where
  | stored (slot : SlotNo) (sofStamp : Word32)
  | unstored (reason : SlotRefusal)
  deriving DecidableEq, Repr

/-- The tap record, less what `Ingress` holds (R35). -/
structure Tap where
  state : TapState
  synchronised : Bool
  idleCount : Nat
  inProgress : Option InProgress
  parkedClose : Bool
  deriving DecidableEq, Repr

/-! ## The trunk port and the relay block -/

/-- Which part of a frame a transmitted bit belongs to, as far as R8 and R9 tell them apart. -/
inductive BitRole where
  | arbitration    -- a bit of the tag or kind field
  | levelChange    -- an inserted level-change bit
  | coded          -- any other bit of the coded region
  | acknowledge
  | delimiter
  deriving DecidableEq, Repr

/-- One bit of an attempt as the trunk port sends it (R7). -/
structure SentBit where
  level : Level
  role : BitRole
  deriving DecidableEq, Repr

/-- The candidate whose attempt is in flight (R91). -/
inductive Candidate where
  | relayHead
  | entry (e : EntryNo)
  deriving DecidableEq, Repr

/-- An outcome the health history records (R120). -/
inductive HealthMark where
  | sent | fault
  deriving DecidableEq, Repr

/-- The trunk port record, less what `Ingress` holds for ingress 6 (R109). `sending`, `attemptStamp` and `acknowledged` are
what R7, R8 and R6 say of the attempt and of the acknowledge. -/
structure Trunk where
  state : TrunkState
  detachPending : Bool
  parkedDetach : Bool
  inFlight : Option Candidate
  sending : List SentBit
  attemptStamp : Word32
  history : List HealthMark
  idleCount : Nat
  synchronised : Bool
  inProgress : Option InProgress
  acknowledged : Bool
  deriving DecidableEq, Repr

/-- The head record of the relay queue (R83). -/
structure HeadRecord where
  attempts : Nat
  passOvers : Byte
  flushPending : Bool
  deriving DecidableEq, Repr

/-- The relay queue, its head record, the gate and the relay settings (R82, R83, R84, R103). -/
structure Relay where
  queue : List SlotNo
  head : Option HeadRecord
  gate : Gate
  yieldLimit : Byte
  retryLimit : Nat
  inDegraded : Bool
  deriving DecidableEq, Repr

/-- A host transmit entry (R85). -/
structure HostEntry where
  state : EntryState
  slot : Option SlotNo
  attempts : Nat
  cancelRequested : Bool
  outcome : Option EntryOutcome
  deriving DecidableEq, Repr

/-! ## The delivery unit -/

/-- An entry of the delivery queue (R164). -/
structure DeliveryEntry where
  slot : SlotNo
  number : Word16
  state : CaptureState
  mark : CompletionMark
  deriving DecidableEq, Repr

/-- The delivery queue, the next capture number and the delivery window W (R164, R165, R166). -/
structure Delivery where
  queue : List DeliveryEntry
  nextNumber : Word16
  window : Nat
  deriving DecidableEq, Repr

/-- The new state a TAP_STATE event reports, with the reason when it is SYNC (R50). -/
inductive TapChange where
  | syncOpened | syncCheck | syncFormat | listen | closing | off
  deriving DecidableEq, Repr

/-- The counters whose increase is offered to the DROPS latch (R178). -/
inductive DropReason where
  | noSlot | overQuota | relayFull | deliveryFull
  deriving DecidableEq, Repr

/-- Why one relay frame left the queue unsent (R102). -/
inductive AbandonReason where
  | retries | flushed
  deriving DecidableEq, Repr

/-- The kind, subject and detail of an event record (R177). -/
inductive EventInfo where
  | partState (new : PartState)
  | tapState (tap : TapNo) (new : TapChange)
  | trunkState (new : TrunkState) (faults : Nat)
  | drops (ingress : IngressNo) (reason : DropReason) (value : Word32)
  | relayAbandon (reason : AbandonReason) (source : Source) (seq : Word16) (tagOut : Tag) (attempts : Nat)
  | relayStopped (removed : Nat)
  deriving DecidableEq, Repr

/-- An event record (R174). -/
structure EventRecord where
  number : Word16
  info : EventInfo
  stamp : Word32
  deriving DecidableEq, Repr

/-- The event queue, the next event number and the lost count (R174, R175). -/
structure EventQueue where
  queue : List EventRecord
  nextNumber : Word16
  lost : Word16
  deriving DecidableEq, Repr

/-- A TX_DONE record (R179). -/
structure TxDone where
  entry : EntryNo
  outcome : EntryOutcome
  attempts : Nat
  tag : Tag
  stamp : Word32
  deriving DecidableEq, Repr

/-! ## The host line -/

/-- The host line rate the straps choose (R131). -/
inductive LineRate where
  | bit115200 | bit460800 | bit921600 | bit2000000
  deriving DecidableEq, Repr

/-- The states of the receive hunter (R135). -/
inductive HunterPhase where
  | hunt | length | collect | check
  deriving DecidableEq, Repr

/-- The receive hunter. `kept` is every byte since the SYNC of the message in collection, oldest first, SYNC included. -/
structure Hunter where
  phase : HunterPhase
  kept : List Byte
  toCollect : Nat
  checkHigh : Option Byte
  deriving DecidableEq, Repr

/-- A REPLY message: its SEQ, and its body as request code, status, detail and result fields (R158, R159). -/
structure Reply where
  seq : Byte
  code : Byte
  status : Status
  detail : Byte
  result : List Byte
  deriving DecidableEq, Repr

/-- The class of a message the part sends (R133). -/
inductive MessageClass where
  | reply | capture | txDone | event
  deriving DecidableEq, Repr

/-- A message on HTX: its class and its bytes from SYNC to the second CHECK byte (R133, R145). -/
structure Transmission where
  kind : MessageClass
  bytes : List Byte
  deriving DecidableEq, Repr

/-- The host line: sampled rate, hunter, link error count, reply queue, message in transmission (R131, R135, R140, R143). -/
structure HostLine where
  rate : LineRate
  hunter : Hunter
  linkErrors : Word16
  replies : List Reply
  htx : Option Transmission
  deriving DecidableEq, Repr

/-! ## The request engine -/

/-- A REQUEST handed over by the hunter: sequence number s, check value c and body (R136). -/
structure Request where
  seq : Byte
  check : Word16
  body : List Byte
  deriving DecidableEq, Repr

/-- What a parked request waits for (R155). -/
inductive ParkedSubject where
  | closeTap (tap : TapNo)
  | detach
  | stop
  deriving DecidableEq, Repr

/-- A parked request (R155). -/
structure Parked where
  subject : ParkedSubject
  seq : Byte
  check : Word16
  epoch : Byte
  deriving DecidableEq, Repr

/-- An entry of the reply cache: the pair (s, c) and the reply (R156). -/
structure CacheEntry where
  seq : Byte
  check : Word16
  reply : Reply
  deriving DecidableEq, Repr

/-- The request engine (R146, R153, R155, R156, R190). `overtaken` is the model's own: the OK of a STOP that completed by a report
while the RESET at the front of the inbox could be executed, so at the moment of that RESET, whose reply goes before it (R194; log
entry 30). -/
structure Engine where
  session : SessionState
  epoch : Byte
  inbox : List Request
  parked : List Parked
  cache : List CacheEntry
  resetPending : Bool
  overtaken : Option Reply
  deriving DecidableEq, Repr

/-- The stop record: the taps and the trunk port that have still to report (R182). -/
structure StopRecord where
  taps : List TapNo
  trunk : Bool
  deriving DecidableEq, Repr

/-! ## The part -/

/-- The whole part, and the queue of commands that are waiting for it. -/
structure State where
  part : PartState
  stop : Option StopRecord
  stamp : Word32
  store : Store
  ingresses : Vector Ingress Config.ingressCount
  taps : Vector Tap Config.tapCount
  trunk : Trunk
  relay : Relay
  entries : Vector HostEntry Config.entryCount
  delivery : Delivery
  events : EventQueue
  txDone : List TxDone
  line : HostLine
  engine : Engine
  /-- The MODEL's own field: the commands waiting, first in, first out. -/
  pending : List Instr
  deriving DecidableEq, Repr

/-! ## Values after a power reset -/

/-- The free list 0, 1, ..., 95 (R17, R32). -/
def initialFreeList : List SlotNo :=
  [0, 1, 2, 3, 4, 5, 6, 7, 8, 9, 10, 11, 12, 13, 14, 15, 16, 17, 18, 19, 20, 21, 22, 23] ++
  [24, 25, 26, 27, 28, 29, 30, 31, 32, 33, 34, 35, 36, 37, 38, 39, 40, 41, 42, 43, 44, 45, 46, 47] ++
  [48, 49, 50, 51, 52, 53, 54, 55, 56, 57, 58, 59, 60, 61, 62, 63, 64, 65, 66, 67, 68, 69, 70, 71] ++
  [72, 73, 74, 75, 76, 77, 78, 79, 80, 81, 82, 83, 84, 85, 86, 87, 88, 89, 90, 91, 92, 93, 94, 95]

/-- The frame store after power-on (R32). -/
def Store.initial : Store where
  slots := Vector.replicate _ .free
  freeList := initialFreeList
  use := Vector.replicate _ 0
  quota := Vector.replicate _ 16

/-- The cleared window record (R55). -/
def Window.cleared : Window where
  enabled := false
  matchTag := 0
  mask := 0
  kinds := .any
  longest := 0
  targets := .drop
  rewrite := none

/-- A table after power-on: cleared records, default DROP (R80). -/
def Table.initial : Table where
  windows := Vector.replicate _ .cleared
  default := .drop

/-- Counters at 0 (R25, R49, R77). -/
def Counters.zero : Counters := ⟨0, 0, 0, 0, 0, 0, 0, 0⟩

/-- An ingress after power-on (R11, R35, R57, R80, R109, R178). -/
def Ingress.initial : Ingress where
  rate := .kbit500
  stampPoint := .sof
  nextSeq := 0
  counters := .zero
  dropsLatch := false
  active := .initial
  staged := .initial
  generation := 0

/-- A tap after any reset (R52, R53). Its count of recessive bit times is 0 there, as wherever the tap is OFF: the model's choice,
since R35 and R52 give the count no value and a tap in OFF counts nothing (DESIGN CHOICE, log entry 8). -/
def Tap.initial : Tap where
  state := .off
  synchronised := false
  idleCount := 0
  inProgress := none
  parkedClose := false

/-- The trunk port after any reset (R129, R130). -/
def Trunk.initial : Trunk where
  state := .detached
  detachPending := false
  parkedDetach := false
  inFlight := none
  sending := []
  attemptStamp := 0
  history := []
  idleCount := 0
  synchronised := false
  inProgress := none
  acknowledged := false

/-- The head record of an entry that becomes head (R83). -/
def HeadRecord.fresh : HeadRecord where
  attempts := 0
  passOvers := 0
  flushPending := false

/-- The relay block after power-on (R103, R107). -/
def Relay.initial : Relay where
  queue := []
  head := none
  gate := .opened
  yieldLimit := 8
  retryLimit := 3
  inDegraded := false

/-- A FREE host entry (R85, R107). -/
def HostEntry.initial : HostEntry where
  state := .free
  slot := none
  attempts := 0
  cancelRequested := false
  outcome := none

/-- The delivery queue after any reset (R181). -/
def Delivery.initial : Delivery where
  queue := []
  nextNumber := 0
  window := 0

/-- The event queue after any reset (R181). -/
def EventQueue.initial : EventQueue where
  queue := []
  nextNumber := 0
  lost := 0

/-- The hunter in HUNT with nothing kept (R142). -/
def Hunter.initial : Hunter where
  phase := .hunt
  kept := []
  toCollect := 0
  checkHigh := none

/-- The host line after any reset, at the rate sampled (R142). -/
def HostLine.initial (rate : LineRate) : HostLine where
  rate := rate
  hunter := .initial
  linkErrors := 0
  replies := []
  htx := none

/-- The request engine after any reset (R163). -/
def Engine.initial : Engine where
  session := .closed
  epoch := 0
  inbox := []
  parked := []
  cache := []
  resetPending := false
  overtaken := none

/-- The part at the moment a power reset ends: every block at its power-on values, BOOTING with the memory check begun
(R183). DESIGN CHOICE (log entry 6), unsafe: the straps are taken as 0, 0, since the spec fixes no strap level. -/
def State.reset : State where
  part := .booting
  stop := none
  stamp := 0
  store := .initial
  ingresses := Vector.replicate _ .initial
  taps := Vector.replicate _ .initial
  trunk := .initial
  relay := .initial
  entries := Vector.replicate _ .initial
  delivery := .initial
  events := .initial
  txDone := []
  line := .initial .bit115200
  engine := .initial
  pending := []

/-! ## Reasons to stop -/

/-- The faults of the model. -/
inductive Fault where
  /-- Raised by SEND alone, when a FREE entry's frame is to take a slot and the free list is empty. R19 and R27 say that this
  never arises, so no state of the part stops here. Safe: the model stops where the spec gives no effect. -/
  | sendFoundNoSlot
  deriving DecidableEq, Repr

/-- The refusals of the model. -/
inductive Refusal where
  /-- A command that has no meaning yet, by its mnemonic. Raised by no arm of `exec`: every command has its meaning. Safe. -/
  | notModelled (mnemonic : String)
  deriving DecidableEq, Repr

end Sys2Proof.Machine
end

