-- ==== Sys2Proof/Machine/Bits.lean ====
section
/-! DEFINITION. Numbers as runs of bits and bytes, the bitwise cyclic redundancy check that both line checks use, and
counters that stop at their largest value. -/

namespace Sys2Proof.Machine

/-- The lowest `w` bits of `n`, most significant first (R1). -/
def natToBits : Nat → Nat → List Bool
  | 0, _ => []
  | w + 1, n => n.testBit w :: natToBits w n

/-- The number a run of bits spells, most significant first (R1). -/
def bitsToNat (bits : List Bool) : Nat :=
  bits.foldl (fun n b => 2 * n + b.toNat) 0

/-- The bits of a run of bytes, each byte most significant bit first (R1, R134). -/
def bytesToBits (bytes : List Byte) : List Bool :=
  bytes.flatMap fun b => natToBits 8 b.toNat

/-- `n` bytes read from a run of bits, each most significant bit first (R1). -/
def bitsToBytes : Nat → List Bool → List Byte
  | 0, _ => []
  | n + 1, bits => BitVec.ofNat 8 (bitsToNat (bits.take 8)) :: bitsToBytes n (bits.drop 8)

/-- One bit through a 16-bit cyclic redundancy check with generator `poly`, no reflection (R1, R134). -/
def crcBit (poly : Word16) (crc : Word16) (b : Bool) : Word16 :=
  if crc.msb != b then (crc <<< 1) ^^^ poly else crc <<< 1

/-- The 16-bit cyclic redundancy check of a run of bits, without final inversion (R1, R134). -/
def crcOf (poly initial : Word16) (bits : List Bool) : Word16 :=
  bits.foldl (crcBit poly) initial

/-- The check of a segment frame: generator 8BB7h, initial value 0000h, over tag, kind, length and payload bits (R1). -/
def frameCheck (bits : List Bool) : Word16 :=
  crcOf 0x8BB7#16 0x0000#16 bits

/-- The check value of a host line message: generator 1021h, initial value FFFFh, over LEN, TYPE, SEQ and BODY (R134). -/
def messageCheck (bytes : List Byte) : Word16 :=
  crcOf 0x1021#16 0xFFFF#16 (bytesToBits bytes)

/-- Counting up by one, stopping at the largest value (chapter 0, Conventions). -/
def stopSucc {w : Nat} (x : BitVec w) : BitVec w :=
  if x = BitVec.allOnes w then x else x + 1

/-! ## Byte order of the host line: high byte first -/

/-- A 16-bit number as two bytes. -/
def bytes16 (x : Word16) : List Byte :=
  [x.extractLsb' 8 8, x.extractLsb' 0 8]

/-- A 24-bit tag as three bytes. -/
def bytes24 (x : Tag) : List Byte :=
  [x.extractLsb' 16 8, x.extractLsb' 8 8, x.extractLsb' 0 8]

/-- A 32-bit number as four bytes. -/
def bytes32 (x : Word32) : List Byte :=
  [x.extractLsb' 24 8, x.extractLsb' 16 8, x.extractLsb' 8 8, x.extractLsb' 0 8]

/-- A count below 256 as one byte. -/
def byteOf (n : Nat) : Byte := BitVec.ofNat 8 n

/-- Two bytes read as a number. -/
def word16Of (hi lo : Byte) : Word16 := hi ++ lo

/-- Three bytes read as a tag. -/
def tagOf (b2 b1 b0 : Byte) : Tag := (b2 ++ b1) ++ b0

/-- A yes/no or on/off field as it is sent: 00h or 01h (R195, chapter 12.6). -/
def flagByte (b : Bool) : Byte := if b then 1 else 0

end Sys2Proof.Machine
end

