-- ==== Sys2Proof/Machine/Operands.lean ====
section
/-! DEFINITION. The code values of chapter 12.6 and R158, the fields of a request body (R195), and the messages the part
sends (R133, R196). -/

namespace Sys2Proof.Machine

/-! ## Code values the part sends (chapter 12.6, R158) -/

def PartState.code : PartState → Byte
  | .booting => 0x00#8
  | .config => 0x01#8
  | .run => 0x02#8
  | .stopping => 0x03#8

def TapState.code : TapState → Byte
  | .off => 0x00#8
  | .sync => 0x01#8
  | .listen => 0x02#8
  | .closing => 0x03#8

def TrunkState.code : TrunkState → Byte
  | .detached => 0x00#8
  | .joining => 0x01#8
  | .active => 0x02#8
  | .degraded => 0x03#8
  | .suspended => 0x04#8

def EntryState.code : EntryState → Byte
  | .free => 0x00#8
  | .pending => 0x01#8
  | .inFlight => 0x02#8
  | .done => 0x03#8

def Gate.code : Gate → Byte
  | .opened => 0x00#8
  | .held => 0x01#8

def Rate.code : Rate → Byte
  | .kbit125 => 0x00#8
  | .kbit250 => 0x01#8
  | .kbit500 => 0x02#8
  | .kbit1000 => 0x03#8

def StampPoint.code : StampPoint → Byte
  | .sof => 0x00#8
  | .eof => 0x01#8

def FrameKind.code : FrameKind → Byte
  | .data => 0x01#8
  | .query => 0x02#8

def Kinds.code : Kinds → Byte
  | .data => 0x01#8
  | .query => 0x02#8
  | .any => 0x03#8

def Target.code : Target → Byte
  | .drop => 0x00#8
  | .relay => 0x01#8
  | .host => 0x02#8
  | .both => 0x03#8

def Copy.code : Copy → Byte
  | .active => 0x00#8
  | .staged => 0x01#8

def EntryOutcome.code : EntryOutcome → Byte
  | .sent => 0x00#8
  | .abandoned => 0x01#8
  | .cancelled => 0x02#8
  | .stopped => 0x03#8

def DropReason.code : DropReason → Byte
  | .noSlot => 0x01#8
  | .overQuota => 0x02#8
  | .relayFull => 0x03#8
  | .deliveryFull => 0x04#8

def AbandonReason.code : AbandonReason → Byte
  | .retries => 0x01#8
  | .flushed => 0x02#8

def Status.code : Status → Byte
  | .ok => 0x00#8
  | .deferred => 0x01#8
  | .full => 0x02#8
  | .noSession => 0x03#8
  | .badRequest => 0x04#8
  | .badValue => 0x05#8
  | .state => 0x06#8
  | .busy => 0x07#8

/-- The TYPE byte of a message (R133). -/
def MessageClass.code : MessageClass → Byte
  | .reply => 0x81#8
  | .capture => 0x82#8
  | .txDone => 0x83#8
  | .event => 0x84#8

/-- The ingress number of a slot's source: 0 to 6, or 7 for HOST (R10). -/
def Source.code : Source → Byte
  | .ingress i => byteOf i.val
  | .host => 0x07#8

/-- The state a TAP_STATE event reports, without its reason (R50). -/
def TapChange.state : TapChange → TapState
  | .syncOpened | .syncCheck | .syncFormat => .sync
  | .listen => .listen
  | .closing => .closing
  | .off => .off

/-- The SYNC reason byte of a TAP_STATE event, 00h for any other state (R196). -/
def TapChange.reasonCode : TapChange → Byte
  | .syncOpened => 0x01#8
  | .syncCheck => 0x02#8
  | .syncFormat => 0x03#8
  | .listen | .closing | .off => 0x00#8

/-! ## Reading the fields of a request: a byte that holds none of the listed codes, or a number outside its range, reads as
`none` and is refused with BAD_VALUE (R195) -/

def Rate.ofCode (b : Byte) : Option Rate :=
  if b = 0x00#8 then some .kbit125
  else if b = 0x01#8 then some .kbit250
  else if b = 0x02#8 then some .kbit500
  else if b = 0x03#8 then some .kbit1000
  else none

def StampPoint.ofCode (b : Byte) : Option StampPoint :=
  if b = 0x00#8 then some .sof else if b = 0x01#8 then some .eof else none

def FrameKind.ofCode (b : Byte) : Option FrameKind :=
  if b = 0x01#8 then some .data else if b = 0x02#8 then some .query else none

def Kinds.ofCode (b : Byte) : Option Kinds :=
  if b = 0x01#8 then some .data else if b = 0x02#8 then some .query else if b = 0x03#8 then some .any else none

def Target.ofCode (b : Byte) : Option Target :=
  if b = 0x00#8 then some .drop
  else if b = 0x01#8 then some .relay
  else if b = 0x02#8 then some .host
  else if b = 0x03#8 then some .both
  else none

def Copy.ofCode (b : Byte) : Option Copy :=
  if b = 0x00#8 then some .active else if b = 0x01#8 then some .staged else none

/-- A yes/no or on/off field (R195). -/
def flagOf (b : Byte) : Option Bool :=
  if b = 0x00#8 then some false else if b = 0x01#8 then some true else none

/-- A field that names one of `n` things by number from 0. -/
def indexOf (n : Nat) (b : Byte) : Option (Fin n) :=
  if h : b.toNat < n then some ⟨b.toNat, h⟩ else none

/-- A field that holds a number from `lo` to `hi`. -/
def numberIn (lo hi : Nat) (b : Byte) : Option Nat :=
  if lo ≤ b.toNat ∧ b.toNat ≤ hi then some b.toNat else none

/-- An ingress field that also accepts FFh: one ingress, or `none` for FFh (R10). -/
def ingressOrAll (b : Byte) : Option (Option IngressNo) :=
  if b = 0xFF#8 then some none else (indexOf Config.ingressCount b).map some

/-! ## Request codes and body lengths (chapters 8.12 and 12.2) -/

/-- The requests of the index in section 8.12. -/
inductive RequestCode where
  | hello | status | start | stop | reset
  | setTap | openTap | closeTap | setQuota
  | setWindow | setDefault | readWindow | commit | discardStaged
  | setRelay | holdRelay | releaseRelay | flushRelay | send | cancel
  | setTrunk | attach | detach | resume
  | grant | ack | resend | discardCaptures
  deriving DecidableEq, Repr

/-- Every request code, in the index's order. -/
def RequestCode.all : List RequestCode :=
  [.hello, .status, .start, .stop, .reset, .setTap, .openTap, .closeTap, .setQuota, .setWindow, .setDefault, .readWindow,
   .commit, .discardStaged] ++
  [.setRelay, .holdRelay, .releaseRelay, .flushRelay, .send, .cancel, .setTrunk, .attach, .detach, .resume, .grant, .ack,
   .resend, .discardCaptures]

def RequestCode.byte : RequestCode → Byte
  | .hello => 0x01#8
  | .status => 0x02#8
  | .start => 0x03#8
  | .stop => 0x04#8
  | .reset => 0x05#8
  | .setTap => 0x10#8
  | .openTap => 0x11#8
  | .closeTap => 0x12#8
  | .setQuota => 0x13#8
  | .setWindow => 0x20#8
  | .setDefault => 0x21#8
  | .readWindow => 0x22#8
  | .commit => 0x23#8
  | .discardStaged => 0x24#8
  | .setRelay => 0x30#8
  | .holdRelay => 0x31#8
  | .releaseRelay => 0x32#8
  | .flushRelay => 0x33#8
  | .send => 0x34#8
  | .cancel => 0x35#8
  | .setTrunk => 0x40#8
  | .attach => 0x41#8
  | .detach => 0x42#8
  | .resume => 0x43#8
  | .grant => 0x50#8
  | .ack => 0x51#8
  | .resend => 0x52#8
  | .discardCaptures => 0x53#8

/-- The request a code byte stands for (R154). -/
def RequestCode.ofByte (b : Byte) : Option RequestCode :=
  RequestCode.all.find? fun k => k.byte == b

/-- The bytes of fields after the request code, for every request but SEND (chapter 12.2). -/
def RequestCode.fieldBytes : RequestCode → Nat
  | .hello | .start | .stop | .reset => 0
  | .status | .openTap | .closeTap | .commit | .discardStaged | .cancel | .grant => 1
  | .setQuota | .setDefault | .setTrunk | .ack => 2
  | .setTap | .readWindow | .setRelay => 3
  | .setWindow => 16
  | .holdRelay | .releaseRelay | .flushRelay | .attach | .detach | .resume | .resend | .discardCaptures => 0
  | .send => 6

/-- The payload bytes a SEND body must hold: field 4 when field 3 holds the DATA code, none otherwise (R195). -/
def sendPayloadSize (kindByte lengthByte : Byte) : Nat :=
  if kindByte = FrameKind.data.code then lengthByte.toNat else 0

/-- Whether the fields have the length their request code gives (R154, R195). -/
def RequestCode.lengthFits (code : RequestCode) (fields : List Byte) : Bool :=
  match code, fields with
  | .send, _ :: _ :: _ :: _ :: kindByte :: lengthByte :: payload => payload.length == sendPayloadSize kindByte lengthByte
  | .send, _ => false
  | code, fields => fields.length == code.fieldBytes

/-- The request of a body: none for an empty body, an unknown code or a wrong length, which R154 refuses. -/
def requestOf : List Byte → Option RequestCode
  | [] => none
  | b :: fields =>
    match RequestCode.ofByte b with
    | none => none
    | some code => if code.lengthFits fields then some code else none

/-- The code byte a reply carries: the first byte of the request's body, or 00h for an empty body (R151, R154, R158). -/
def codeByte (body : List Byte) : Byte := body.headD 0x00#8

/-- The request code a parked request's reply carries. -/
def ParkedSubject.code : ParkedSubject → Byte
  | .closeTap _ => RequestCode.closeTap.byte
  | .detach => RequestCode.detach.byte
  | .stop => RequestCode.stop.byte

/-! ## Messages the part sends -/

/-- The SYNC byte (R133). -/
def syncByte : Byte := 0xA5#8

/-- The TYPE of a REQUEST (R133). -/
def requestType : Byte := 0x01#8

/-- A whole message: SYNC, LEN, TYPE, SEQ, BODY and CHECK, high byte first (R133, R134). -/
def messageBytes (type seq : Byte) (body : List Byte) : List Byte :=
  let covered := byteOf (body.length + 2) :: type :: seq :: body
  syncByte :: (covered ++ bytes16 (messageCheck covered))

/-- The body of a reply (R158, R159). -/
def Reply.body (r : Reply) : List Byte :=
  r.code :: r.status.code :: r.detail :: r.result

/-- The bytes of a REPLY message (R133). -/
def Reply.bytes (r : Reply) : List Byte :=
  messageBytes MessageClass.reply.code r.seq r.body

/-- The code of an EVENT's kind (chapter 12.6). -/
def EventInfo.kindCode : EventInfo → Byte
  | .partState _ => 0x01#8
  | .tapState _ _ => 0x02#8
  | .trunkState _ _ => 0x03#8
  | .drops _ _ _ => 0x04#8
  | .relayAbandon _ _ _ _ _ => 0x05#8
  | .relayStopped _ => 0x05#8

/-- The subject byte of an EVENT: a tap or an ingress, or FFh for none (R177, R196). -/
def EventInfo.subject : EventInfo → Byte
  | .partState _ => 0xFF#8
  | .tapState tap _ => byteOf tap.val
  | .trunkState _ _ => 0x06#8
  | .drops i _ _ => byteOf i.val
  | .relayAbandon _ source _ _ _ => source.code
  | .relayStopped _ => 0xFF#8

/-- The detail bytes an EVENT's kind uses (chapter 12.4). -/
def EventInfo.detail : EventInfo → List Byte
  | .partState new => [new.code]
  | .tapState _ new => [new.state.code, new.reasonCode]
  | .trunkState new faults => [new.code, byteOf faults]
  | .drops _ reason value => reason.code :: bytes32 value
  | .relayAbandon reason _ seq tagOut attempts => reason.code :: (bytes16 seq ++ bytes24 tagOut ++ [byteOf attempts])
  | .relayStopped removed => [0x03#8, byteOf removed]

/-- The body of an EVENT notice, with the lost count taken at its start and unused detail bytes sent as 00h (chapter 12.4,
R176, R196). -/
def EventRecord.body (r : EventRecord) (lost : Word16) : List Byte :=
  bytes16 r.number ++ bytes16 lost ++ [r.info.kindCode, r.info.subject] ++ bytes32 r.stamp ++
    (r.info.detail ++ List.replicate (7 - r.info.detail.length) 0x00#8)

/-- The body of a TX_DONE notice (chapter 12.4). -/
def TxDone.body (r : TxDone) : List Byte :=
  [byteOf r.entry.val, r.outcome.code, byteOf r.attempts] ++ bytes24 r.tag ++ bytes32 r.stamp

/-- The body of a CAPTURE notice (chapter 12.4, R167). -/
def captureBody (number : Word16) (source : Source) (r : SlotRecord) : List Byte :=
  let classified := r.classified.getD ⟨0, 0⟩
  bytes16 number ++ [source.code] ++ bytes16 (r.seq.getD 0) ++ bytes24 r.tagReceived ++ bytes24 r.tagOut ++
    [r.kind.code, byteOf r.length] ++ bytes32 r.stamp ++ bytes16 classified.generation ++
    [byteOf classified.windowIndex] ++ r.payload

/-- The eight counters as STATUS sends them (R51). -/
def Counters.bytes (c : Counters) : List Byte :=
  bytes32 c.valid ++ bytes32 c.invalidCheck ++ bytes32 c.invalidFormat ++ bytes32 c.noSlot ++ bytes32 c.overQuota ++
    bytes32 c.windowDrop ++ bytes32 c.relayFull ++ bytes32 c.deliveryFull

/-- The seven fields of a window record as READ_WINDOW sends them, an absent rewrite as 00h and 000000h (R66, R196). -/
def Window.bytes (w : Window) : List Byte :=
  [flagByte w.enabled] ++ bytes24 w.matchTag ++ bytes24 w.mask ++ [w.kinds.code, byteOf w.longest, w.targets.code] ++
    [flagByte w.rewrite.isSome] ++ bytes24 (w.rewrite.getD 0)

end Sys2Proof.Machine
end

