-- ==== Sys2Proof/Machine/Flags.lean ====
section
/-! DEFINITION. What the part keeps for reporting: access to the ingress, tap and entry records, event records and the lost
count, the counters of an ingress and its DROPS latch. -/

namespace Sys2Proof.Machine

/-! ## Records by number -/

def State.ingress (s : State) (i : IngressNo) : Ingress := s.ingresses.get i

def State.modIngress (s : State) (i : IngressNo) (f : Ingress → Ingress) : State :=
  { s with ingresses := s.ingresses.set i (f (s.ingress i)) }

def State.tap (s : State) (t : TapNo) : Tap := s.taps.get t

def State.modTap (s : State) (t : TapNo) (f : Tap → Tap) : State :=
  { s with taps := s.taps.set t (f (s.tap t)) }

def State.entry (s : State) (e : EntryNo) : HostEntry := s.entries.get e

def State.modEntry (s : State) (e : EntryNo) (f : HostEntry → HostEntry) : State :=
  { s with entries := s.entries.set e (f (s.entry e)) }

/-- The ingress number of a tap is its own number (chapter 3). -/
def tapIngress (t : TapNo) : IngressNo := t.castSucc

/-- Ingress 6, TR, the trunk receiver (R10). -/
def trunkIngress : IngressNo := 6

/-- The taps in order, T0 first. -/
def allTaps : List TapNo := [0, 1, 2, 3, 4, 5]

/-- The ingresses with records, in order. -/
def allIngresses : List IngressNo := [0, 1, 2, 3, 4, 5, 6]

/-- The host entries in order, E0 first. -/
def allEntries : List EntryNo := [0, 1, 2, 3, 4, 5, 6, 7]

/-! ## Events -/

/-- Storing an event record: appended with the next event number while fewer than 16 records are held, otherwise counted in
the lost count, which stops at 65535 (R174, R175). -/
def EventQueue.push (q : EventQueue) (info : EventInfo) (stamp : Word32) : EventQueue :=
  if q.queue.length < Config.eventCapacity then
    { q with queue := q.queue ++ [⟨q.nextNumber, info, stamp⟩], nextNumber := q.nextNumber + 1 }
  else { q with lost := stopSucc q.lost }

/-- A block stores an event, stamped with the stamp counter (R175). -/
def State.storeEvent (s : State) (info : EventInfo) : State :=
  { s with events := s.events.push info s.stamp }

/-! ## Counters and the DROPS latch -/

/-- The counter a DROPS reason names (R178). -/
def Counters.drop (c : Counters) : DropReason → Word32
  | .noSlot => c.noSlot
  | .overQuota => c.overQuota
  | .relayFull => c.relayFull
  | .deliveryFull => c.deliveryFull

/-- Raises that counter by one; it wraps (R25, R77). -/
def Counters.raiseDrop (c : Counters) : DropReason → Counters
  | .noSlot => { c with noSlot := c.noSlot + 1 }
  | .overQuota => { c with overQuota := c.overQuota + 1 }
  | .relayFull => { c with relayFull := c.relayFull + 1 }
  | .deliveryFull => { c with deliveryFull := c.deliveryFull + 1 }

/-- The counter under which a refusal reason is counted (R25). -/
def SlotRefusal.dropReason : SlotRefusal → DropReason
  | .noSlot => .noSlot
  | .overQuota => .overQuota

/-- Counts a loss at an ingress and offers the increase to its DROPS latch: with the latch clear a DROPS event is stored and
the latch becomes set, whether or not the event found room (R25, R77, R178). -/
def State.countDrop (s : State) (i : IngressNo) (reason : DropReason) : State :=
  let g := s.ingress i
  let counters := g.counters.raiseDrop reason
  { s with
    ingresses := s.ingresses.set i { g with counters := counters, dropsLatch := true }
    events := if g.dropsLatch then s.events else s.events.push (.drops i reason (counters.drop reason)) s.stamp }

/-- WINDOW_DROP of an ingress goes up by one; it is not offered to the latch (R75). -/
def State.countWindowDrop (s : State) (i : IngressNo) : State :=
  s.modIngress i fun g => { g with counters := { g.counters with windowDrop := g.counters.windowDrop + 1 } }

end Sys2Proof.Machine
end

