-- ==== Sys2Proof/Machine/Segment.lean ====
section
/-! DEFINITION. The segment line: the frame as the bits that travel (R1, R7), the receive function that ends a frame with
its verdict (R4), and the outcome of an attempt from the levels sent and read back (R8, R9). -/

namespace Sys2Proof.Machine

/-! ## The frame on the line -/

/-- The two bits of the kind field: 01 DATA, 10 QUERY (R1). -/
def FrameKind.bits : FrameKind → List Bool
  | .data => [false, true]
  | .query => [true, false]

/-- A frame whose length is at most 32 and whose payload has exactly that many bytes for DATA and none for QUERY (R4). -/
def Frame.valid (f : Frame) : Bool :=
  decide (f.length ≤ Config.maxPayload) &&
    match f.kind with
    | .data => f.payload.length == f.length
    | .query => f.payload.isEmpty

/-- The tag and kind bits, through which nodes arbitrate (R8). -/
def Frame.arbitrationBits (f : Frame) : List Bool :=
  natToBits 24 f.tag.toNat ++ f.kind.bits

/-- Tag, kind, length and payload bits in the order they travel, the bits the check covers (R1). -/
def Frame.checkedBits (f : Frame) : List Bool :=
  f.arbitrationBits ++ natToBits 6 f.length ++ bytesToBits f.payload

/-- The check bits of a frame, computed over the fields sent (R7). -/
def Frame.checkBits (f : Frame) : List Bool :=
  natToBits 16 (frameCheck f.checkedBits).toNat

/-- The coded region before level-change bits are inserted: start delimiter, fields and check (R1). -/
def Frame.codedBits (f : Frame) : List SentBit :=
  ⟨false, .coded⟩ :: (f.arbitrationBits.map (⟨·, .arbitration⟩) ++
    (natToBits 6 f.length ++ bytesToBits f.payload ++ f.checkBits).map (⟨·, .coded⟩))

/-- Inserts a level-change bit after every five consecutive bits of equal level, one after the last bit included. `last` and
`run` are the level and the length of the run so far; an inserted bit is the first bit of the next run (R1). -/
def insertLevelChanges (last : Level) (run : Nat) : List SentBit → List SentBit
  | [] => if run = 5 then [⟨!last, .levelChange⟩] else []
  | b :: bits =>
    if run = 5 then
      ⟨!last, .levelChange⟩ :: b :: insertLevelChanges b.level (if b.level = !last then 2 else 1) bits
    else
      b :: insertLevelChanges b.level (if b.level = last then run + 1 else 1) bits

/-- The bits of a frame as the trunk port sends it: coded region with level-change bits, a recessive acknowledge bit and an
end delimiter of eight recessive bits (R1, R7). -/
def Frame.sentBits (f : Frame) : List SentBit :=
  insertLevelChanges true 0 f.codedBits ++ ⟨true, .acknowledge⟩ :: List.replicate 8 ⟨true, .delimiter⟩

/-- The levels of a frame on the line, with the acknowledge bit as some receiver drives it (R1, R6). -/
def Frame.lineLevels (f : Frame) (acknowledgeLevel : Level) : List Level :=
  f.sentBits.map fun b => if b.role = .acknowledge then acknowledgeLevel else b.level

/-! ## Reception -/

/-- Where a FORMAT fault was found (R4). -/
inductive FormatFault where
  | level | kindCode | length | delimiter
  deriving DecidableEq, Repr

/-- The verdict of an end of frame (R4). -/
inductive Verdict where
  | valid (f : Frame)
  | invalidCheck
  | invalidFormat (found : FormatFault)
  deriving DecidableEq, Repr

/-- Whether the receiver found no fault up to and including the check, and so came to the acknowledge bit (R6). -/
def Verdict.reachedAcknowledge : Verdict → Bool
  | .valid _ => true
  | .invalidFormat .delimiter => true
  | _ => false

/-- The kind a code stands for; codes 00 and 11 are not assigned (R1). -/
def kindOfBits : List Bool → Option FrameKind
  | [false, true] => some .data
  | [true, false] => some .query
  | _ => none

/-- The payload bytes to expect after the length field: `length` for DATA, none for QUERY (R4). -/
def payloadSize (kind : FrameKind) (length : Nat) : Nat :=
  match kind with
  | .data => length
  | .query => 0

/-- What the field bits received so far decide. `fields` holds tag, kind, length, payload and check bits, level-change bits
removed. -/
inductive FieldResult where
  | more
  | fault (v : Verdict)
  | complete (f : Frame)
  deriving DecidableEq, Repr

/-- The receiver's judgement after a field bit: the kind code at the last kind bit, the length at the last length bit, the
check at the last check bit (R4). -/
def judgeFields (fields : List Bool) : FieldResult :=
  if fields.length = 26 ∧ kindOfBits (fields.drop 24) = none then .fault (.invalidFormat .kindCode)
  else if fields.length = 32 ∧ Config.maxPayload < bitsToNat (fields.drop 26) then .fault (.invalidFormat .length)
  else if fields.length < 32 then .more
  else
    match kindOfBits ((fields.drop 24).take 2) with
    | none => .fault (.invalidFormat .kindCode)
    | some kind =>
      let length := bitsToNat ((fields.drop 26).take 6)
      let size := payloadSize kind length
      if fields.length < 48 + 8 * size then .more
      else if bitsToNat ((fields.drop (32 + 8 * size)).take 16) = (frameCheck (fields.take (32 + 8 * size))).toNat then
        .complete
          { tag := BitVec.ofNat 24 (bitsToNat (fields.take 24)), kind := kind, length := length
            payload := bitsToBytes size (fields.drop 32) }
      else .fault .invalidCheck

/-- What the receiver expects next: a bit of the coded region, the level-change bit after the last check bit, the
acknowledge bit, or a bit of the end delimiter. -/
inductive RxPhase where
  | coded (last : Level) (run : Nat) (fields : List Bool)
  | lastLevelChange (last : Level) (f : Frame)
  | acknowledge (f : Frame)
  | delimiter (f : Frame) (left : Nat)
  deriving DecidableEq, Repr

/-- One line bit at the receiver: the phase that follows, or the verdict if the frame ends at this bit (R4). -/
def rxBit : RxPhase → Level → RxPhase ⊕ Verdict
  | .coded last run fields, b =>
    if run = 5 then
      if b = last then .inr (.invalidFormat .level) else .inl (.coded b 1 fields)
    else
      let run' := if b = last then run + 1 else 1
      match judgeFields (fields ++ [b]) with
      | .more => .inl (.coded b run' (fields ++ [b]))
      | .fault v => .inr v
      | .complete f => if run' = 5 then .inl (.lastLevelChange b f) else .inl (.acknowledge f)
  | .lastLevelChange last f, b =>
    if b = last then .inr (.invalidFormat .level) else .inl (.acknowledge f)
  | .acknowledge f, _ => .inl (.delimiter f 8)
  | .delimiter f left, b =>
    if b = false then .inr (.invalidFormat .delimiter)
    else if left ≤ 1 then .inr (.valid f)
    else .inl (.delimiter f (left - 1))

/-- The verdict of the frame that ends exactly at the last of the given bits; none if no frame ends there. -/
def rxRun : RxPhase → List Level → Option Verdict
  | _, [] => none
  | phase, b :: bits =>
    match rxBit phase b with
    | .inr v => if bits = [] then some v else none
    | .inl phase' => rxRun phase' bits

/-- The verdict on a frame from its line bits, start delimiter first; none where the bits do not begin with a dominant bit or
the frame does not end exactly at their last bit (R3, R4). -/
def receive : List Level → Option Verdict
  | false :: bits => rxRun (.coded false 1 []) bits
  | _ => none

/-! ## The outcome of an attempt -/

/-- The outcome of an attempt on the line (R8, R9). -/
inductive AttemptOutcome where
  | sent | lost | fault
  deriving DecidableEq, Repr

/-- The outcome delivered exactly at the last bit read back; none if no outcome is delivered there. `acknowledged` is
whether the acknowledge bit has read dominant (R8, R9). -/
def outcomeFrom (acknowledged : Bool) : List SentBit → List Level → Option AttemptOutcome
  | [], _ => none
  | _, [] => none
  | s :: sent, r :: read =>
    if s.role = .acknowledge then outcomeFrom (!r) sent read
    else if s.level = r then
      if sent = [] ∧ read = [] then some (if acknowledged then .sent else .fault) else outcomeFrom acknowledged sent read
    else if read = [] then
      some (if s.role = .arbitration ∧ s.level = true then .lost else .fault)
    else none

/-- The outcome of an attempt from the bits sent and the levels read back up to the bit of the outcome (R8, R9). -/
def attemptOutcome (sent : List SentBit) (read : List Level) : Option AttemptOutcome :=
  outcomeFrom false sent read

end Sys2Proof.Machine
end

