-- ==== Sys2Proof/Machine/Ops.lean ====
section
/-! DEFINITION. The operations the commands share: the frame store (chapter 2), classification (chapter 4), the relay queue
and the host entries (chapter 5), replies, parked requests and the reply cache (chapter 8), the delivery queue (chapter 9),
and the completion of a detach and of STOP (chapters 6 and 10). -/

namespace Sys2Proof.Machine

/-! ## The frame store -/

/-- The three holders a slot can have (R16). -/
inductive Holder where
  | relay | delivery | entry
  deriving DecidableEq, Repr

def Holders.isEmpty (h : Holders) : Bool := !h.relay && !h.delivery && !h.entry

/-- The holder set after one holder has left (R28). -/
def Holders.without (h : Holders) : Holder → Holders
  | .relay => { h with relay := false }
  | .delivery => { h with delivery := false }
  | .entry => { h with entry := false }

def Store.slot (st : Store) (n : SlotNo) : Slot := st.slots.get n

def Store.setSlot (st : Store) (n : SlotNo) (x : Slot) : Store := { st with slots := st.slots.set n x }

/-- The free count (R17). -/
def Store.freeCount (st : Store) : Nat := st.freeList.length

/-- The ingress in whose use count a slot stands, if any (R18). -/
def Slot.usedBy : Slot → Option IngressNo
  | .free => none
  | .filling i => some i
  | .held (.ingress i) _ _ => some i
  | .held .host _ _ => none

/-- The use counts with that of one ingress lowered by one (R18). -/
def lowerUse (use : Vector Nat Config.ingressCount) : Option IngressNo → Vector Nat Config.ingressCount
  | none => use
  | some i => use.set i (use.get i - 1)

/-- A slot becomes FREE: its record is gone, it joins the back of the free list, the use count of its ingress falls (R23, R26,
R28). A slot that is FREE already stays as it is. -/
def Store.free (st : Store) (n : SlotNo) : Store :=
  if st.slot n = .free then st
  else
    { st with
      slots := st.slots.set n .free
      freeList := st.freeList ++ [n]
      use := lowerUse st.use (st.slot n).usedBy }

/-- A holder leaves a slot; the last one to leave releases it (R28). -/
def Store.leave (st : Store) (h : Holder) (n : SlotNo) : Store :=
  match st.slot n with
  | .held source record holders =>
    if (holders.without h).isEmpty then st.free n else st.setSlot n (.held source record (holders.without h))
  | _ => st

/-- A holder leaves several slots, in the order given (R101, R169, R171, R188). -/
def Store.leaveAll (st : Store) (h : Holder) (ns : List SlotNo) : Store :=
  ns.foldl (fun st n => st.leave h n) st

/-- What stands in a slot record that holds nothing. No queue or entry of a reachable state names such a slot (R16; log
entry 12). -/
def SlotRecord.blank : SlotRecord where
  seq := none
  tagReceived := 0
  tagOut := 0
  kind := .data
  length := 0
  payload := []
  stamp := 0
  classified := none

/-- The record of a slot. -/
def Store.record (st : Store) (n : SlotNo) : SlotRecord :=
  match st.slot n with
  | .held _ record _ => record
  | _ => .blank

/-- The source of a slot's frame. -/
def Store.source (st : Store) (n : SlotNo) : Source :=
  match st.slot n with
  | .held source _ _ => source
  | .filling i => .ingress i
  | .free => .host

/-- Whether an entry holds a slot: it is PENDING or IN_FLIGHT (R16). -/
def HostEntry.holdsSlot (e : HostEntry) : Bool :=
  e.state = .pending || e.state = .inFlight

/-- h, the number of host entries that hold a slot (R19). -/
def State.holdingEntries (s : State) : Nat := s.entries.toList.countP HostEntry.holdsSlot

/-- The reserve need, 8 - h (R19). -/
def State.reserveNeed (s : State) : Nat := Config.entryCount - s.holdingEntries

/-- The decision at a start of frame: the quota test, then the pool test; granted, the frame takes the front free slot as
FILLING, otherwise it goes on unstored with its reason (R20, R21). -/
def State.allocate (s : State) (i : IngressNo) (sofStamp : Word32) : State × InProgress :=
  if s.store.quota.get i ≤ s.store.use.get i then (s, .unstored .overQuota)
  else if s.store.freeCount ≤ s.reserveNeed then (s, .unstored .noSlot)
  else
    match s.store.freeList with
    | [] => (s, .unstored .noSlot)
    | n :: rest =>
      let granted := { s.store with
        slots := s.store.slots.set n (.filling i)
        freeList := rest
        use := s.store.use.set i (s.store.use.get i + 1) }
      ({ s with store := granted }, .stored n sofStamp)

/-! ## The relay queue -/

/-- An entry joins the tail; into an empty queue it joins as head, with a new head record (R73, R82, R83). -/
def Relay.append (r : Relay) (n : SlotNo) : Relay :=
  { r with
    queue := r.queue ++ [n]
    head := if r.queue.isEmpty then some .fresh else r.head }

/-- The head leaves; the entry behind it, if any, becomes head with a new head record (R83). -/
def Relay.dropHead (r : Relay) : Relay :=
  { r with
    queue := r.queue.tail
    head := if r.queue.tail.isEmpty then none else some .fresh }

/-- The head record, or that of a new head where there is none. -/
def Relay.headRecord (r : Relay) : HeadRecord := r.head.getD .fresh

/-- The head is removed from the queue and holder RELAY leaves its slot (R95, R98, R101). -/
def State.removeHead (s : State) : State :=
  match s.relay.queue with
  | [] => s
  | n :: _ => { s with relay := s.relay.dropHead, store := s.store.leave .relay n }

/-- The head is removed unsent, with a RELAY_ABANDON event whose fields come from its slot (R98, R101, R102). -/
def State.abandonHead (s : State) (reason : AbandonReason) : State :=
  match s.relay.queue with
  | [] => s
  | n :: _ =>
    let record := s.store.record n
    (s.storeEvent (.relayAbandon reason (s.store.source n) (record.seq.getD 0) record.tagOut
      s.relay.headRecord.attempts)).removeHead

/-! ## Classification -/

def Kinds.accepts : Kinds → FrameKind → Bool
  | .data, k => k == .data
  | .query, k => k == .query
  | .any, _ => true

/-- The hit test (R59). -/
def Window.hits (w : Window) (f : Frame) : Bool :=
  w.enabled && f.tag &&& w.mask == w.matchTag && w.kinds.accepts f.kind && decide (f.length ≤ w.longest)

/-- The first window that hits, with its index, searching in index order (R60). -/
def firstHit (f : Frame) : Nat → List Window → Option (Nat × Window)
  | _, [] => none
  | k, w :: ws => if w.hits f then some (k, w) else firstHit f (k + 1) ws

/-- Tag out of a frame that a window won: the bits under the mask replaced by the rewrite (R61). -/
def Window.tagOut (w : Window) (tag : Tag) : Tag :=
  match w.rewrite with
  | none => tag
  | some rewrite => (tag &&& ~~~w.mask) ||| rewrite

/-- What the search of a table gives a frame: targets, tag out and window index (R60, R61). -/
structure Placement where
  target : Target
  tagOut : Tag
  windowIndex : Nat
  deriving DecidableEq, Repr

/-- The search of a table; the default action gives window index 8 and no rewrite (R60, R61). -/
def Table.place (t : Table) (f : Frame) : Placement :=
  match firstHit f 0 t.windows.toList with
  | some (k, w) => ⟨w.targets, w.tagOut f.tag, k⟩
  | none => ⟨t.default, f.tag, Config.windowCount⟩

/-- The targets that are offered to the relay queue (R72). -/
def Target.toRelay : Target → Bool
  | .relay | .both => true
  | .drop | .host => false

/-- The targets that are offered to the delivery queue (R72). -/
def Target.toHost : Target → Bool
  | .host | .both => true
  | .drop | .relay => false

/-- A relay offer: appended while the queue holds fewer than 64 entries, otherwise counted under RELAY_FULL (R73). -/
def State.relayOffer (s : State) (i : IngressNo) (n : SlotNo) : State × Bool :=
  if s.relay.queue.length < Config.relayCapacity then ({ s with relay := s.relay.append n }, true)
  else (s.countDrop i .relayFull, false)

/-- A delivery offer: appended as WAITING with the next capture number while the queue holds fewer than 32 entries, otherwise
counted under DELIVERY_FULL (R74, R165). -/
def State.deliveryOffer (s : State) (i : IngressNo) (n : SlotNo) : State × Bool :=
  if s.delivery.queue.length < Config.deliveryCapacity then
    let appended := { s.delivery with
      queue := s.delivery.queue ++ [⟨n, s.delivery.nextNumber, .waiting, .none⟩]
      nextNumber := s.delivery.nextNumber + 1 }
    ({ s with delivery := appended }, true)
  else (s.countDrop i .deliveryFull, false)

/-- The store acts on the holders that classification gave: HELD with at least one, FREE with none (R26). -/
def Store.settle (st : Store) (i : IngressNo) (n : SlotNo) (record : SlotRecord) (holders : Holders) : Store :=
  if holders.isEmpty then st.free n else st.setSlot n (.held (.ingress i) record holders)

/-- Classification of a stored valid frame and its result (R70 to R76, R26). -/
def State.classify (s : State) (i : IngressNo) (n : SlotNo) (f : Frame) (record : SlotRecord) : State :=
  let g := s.ingress i
  let p := g.active.place f
  let offered := if p.target.toRelay then s.relayOffer i n else (s, false)
  let delivered := if p.target.toHost then offered.1.deliveryOffer i n else (offered.1, false)
  let counted := if p.target = .drop then delivered.1.countWindowDrop i else delivered.1
  let classified := { record with tagOut := p.tagOut, classified := some ⟨g.generation, p.windowIndex⟩ }
  { counted with
    store := counted.store.settle i n classified { relay := offered.2, delivery := delivered.2 } }

/-! ## The end of a frame, at a tap or at the trunk receiver -/

/-- The stamp of a stored frame at its valid end: the SOF stamp, or the stamp counter now, by the stamp point (R13). -/
def stampOf (point : StampPoint) (sofStamp now : Word32) : Word32 :=
  match point with
  | .sof => sofStamp
  | .eof => now

/-- Steps 1 to 5 of R42 and R115: the frame is stamped, numbered and counted under VALID, then classified if stored or
counted under its refusal reason if not. -/
def State.endValidFrame (s : State) (i : IngressNo) (p : InProgress) (f : Frame) : State :=
  let g := s.ingress i
  let counted := s.modIngress i fun g =>
    { g with nextSeq := g.nextSeq + 1, counters := { g.counters with valid := g.counters.valid + 1 } }
  match p with
  | .stored n sofStamp =>
    counted.classify i n f
      { seq := some g.nextSeq, tagReceived := f.tag, tagOut := f.tag, kind := f.kind, length := f.length
        payload := f.payload, stamp := stampOf g.stampPoint sofStamp s.stamp, classified := none }
  | .unstored reason => counted.countDrop i reason.dropReason

/-- Steps 1 to 3 of R43 and of R116: the frame is counted under its invalid reason, its slot is freed, an unstored frame's
refusal reason is dropped (R23). -/
def State.endInvalidFrame (s : State) (i : IngressNo) (p : InProgress) (checkFault : Bool) : State :=
  let counted := s.modIngress i fun g =>
    { g with counters :=
        if checkFault then { g.counters with invalidCheck := g.counters.invalidCheck + 1 }
        else { g.counters with invalidFormat := g.counters.invalidFormat + 1 } }
  match p with
  | .stored n _ => { counted with store := counted.store.free n }
  | .unstored _ => counted

/-- The frame of a verdict is handled (R5). -/
def State.endFrame (s : State) (i : IngressNo) (p : InProgress) : Verdict → State
  | .valid f => s.endValidFrame i p f
  | .invalidCheck => s.endInvalidFrame i p true
  | .invalidFormat _ => s.endInvalidFrame i p false

/-! ## Replies -/

/-- A reply joins the reply queue (R143). -/
def State.queueReply (s : State) (r : Reply) : State :=
  { s with line := { s.line with replies := s.line.replies ++ [r] } }

/-- Inserting in the reply cache: an entry with the same s leaves, otherwise the oldest of eight (R156). -/
def insertCache (cache : List CacheEntry) (e : CacheEntry) : List CacheEntry :=
  (if cache.any (fun c => c.seq == e.seq) then cache.filter (fun c => c.seq != e.seq)
   else if Config.cacheCapacity ≤ cache.length then cache.drop 1
   else cache) ++ [e]

/-- A reply produced by an execution or a completion is queued, and cached while the session is OPEN and `current` holds
(R154, R157). -/
def State.produceReply (s : State) (check : Word16) (r : Reply) (current : Bool) : State :=
  let queued := s.queueReply r
  if s.engine.session = .opened ∧ current = true then
    { queued with engine := { queued.engine with cache := insertCache queued.engine.cache ⟨r.seq, check, r⟩ } }
  else queued

/-- The reply that answers a request (R158). -/
def Request.reply (r : Request) (status : Status) (detail : Byte) (result : List Byte) : Reply where
  seq := r.seq
  code := codeByte r.body
  status := status
  detail := detail
  result := result

/-- Execution ends with a reply (R154, R158). -/
def State.answer (s : State) (r : Request) (status : Status) (detail : Byte) (result : List Byte) : State :=
  s.produceReply r.check (r.reply status detail result) true

/-- A refused request: three header bytes and no result fields (R159). -/
def State.refuse (s : State) (r : Request) (status : Status) (detail : Byte) : State :=
  s.answer r status detail []

/-- Whether a message of this class is on HTX. -/
def State.sends (s : State) (kind : MessageClass) : Bool := s.line.htx.any fun m => m.kind = kind

/-- The replies with every copy of `x` behind the others, in the order they stood; the first `onLine` of them keep their place. -/
def sendBack (onLine : Nat) (x : Reply) (replies : List Reply) : List Reply :=
  replies.take onLine ++ ((replies.drop onLine).filter (· ≠ x) ++ (replies.drop onLine).filter (· = x))

/-- The request engine takes the oldest request of the inbox, when it may execute one (not BOOTING, no reset pending, queued
replies plus parked requests below 16) and that request is the one named; `none` names a request that R154 refuses with
BAD_REQUEST (R143, R153, R154, R190). -/
def State.takeRequest (s : State) (code : Option RequestCode) : Option (Request × State) :=
  match s.engine.inbox with
  | [] => none
  | r :: rest =>
    if s.part ≠ .booting ∧ s.engine.resetPending = false ∧
        s.line.replies.length + s.engine.parked.length < Config.executionBound ∧ requestOf r.body = code then
      some (r, { s with engine := { s.engine with inbox := rest } })
    else none

/-! ## Parked requests -/

/-- The request is parked, with the epoch of this execution (R155). -/
def State.park (s : State) (r : Request) (subject : ParkedSubject) : State :=
  { s with engine := { s.engine with parked := s.engine.parked ++ [⟨subject, r.seq, r.check, s.engine.epoch⟩] } }

/-- The reply of a parked request. -/
def Parked.reply (p : Parked) (result : List Byte) : Reply where
  seq := p.seq
  code := p.subject.code
  status := .ok
  detail := 0
  result := result

/-- A parked request completes: its record leaves the parked set and its OK is queued, cached while the session is OPEN with
the epoch at which it was parked (R155, R157). -/
def State.answerParked (s : State) (subject : ParkedSubject) (result : List Byte) : State :=
  match s.engine.parked.find? (fun p => p.subject == subject) with
  | none => s
  | some p =>
    let left := { s with engine := { s.engine with parked := s.engine.parked.filter (fun p => p.subject != subject) } }
    left.produceReply p.check (p.reply result) (p.epoch == s.engine.epoch)

/-! ## Host entries -/

/-- An entry becomes DONE: outcome set, TX_DONE record appended, slot released, cancel-requested and slot cleared (R88). -/
def State.entryDone (s : State) (e : EntryNo) (outcome : EntryOutcome) : State :=
  let entry := s.entry e
  let record := (entry.slot.map s.store.record).getD .blank
  { s with
    txDone := s.txDone ++ [⟨e, outcome, entry.attempts, record.tagOut, record.stamp⟩]
    store := match entry.slot with
      | some n => s.store.leave .entry n
      | none => s.store
    entries := s.entries.set e
      { entry with state := .done, slot := none, cancelRequested := false, outcome := some outcome } }

/-! ## STOP and the reports to the operating-state controller -/

/-- The PENDING entries, in ascending order. -/
def State.pendingEntries (s : State) : List EntryNo :=
  allEntries.filter fun e => (s.entry e).state = .pending

/-- STOP completes (R188). -/
def State.completeStop (s : State) : State :=
  let removed := s.relay.queue
  let cleared := { s with
    store := s.store.leaveAll .relay removed
    relay := { s.relay with queue := [], head := none } }
  let reported := cleared.storeEvent (.relayStopped removed.length)
  let stopped := reported.pendingEntries
  let ended := stopped.foldl (fun s e => s.entryDone e .stopped) reported
  let config := { ended with relay := { ended.relay with gate := .opened }, part := .config, stop := none }
  (config.storeEvent (.partState .config)).answerParked .stop [byteOf removed.length, byteOf stopped.length]

/-- Whether every tap and the trunk port have reported. -/
def StopRecord.isEmpty (r : StopRecord) : Bool := r.taps.isEmpty && !r.trunk

/-- STOP has completed and its reply stands last. If the RESET at the front of the inbox could be executed at this moment, it and
the completion are taken at one moment, the completion first, and the engine keeps the reply that the RESET reply goes before
(R153, R194; log entry 30). -/
def State.markOvertaken (s : State) : State :=
  if (s.takeRequest (some .reset)).isSome then
    { s with engine := { s.engine with overtaken := s.line.replies.getLast? } }
  else s

/-- A report to the controller, the last step of its event: it is struck from the stop record, and the report that empties
the record completes STOP (R187, R188, R194). Without a stop record there is nothing to report to. -/
def State.report (s : State) (strike : StopRecord → StopRecord) : State :=
  match s.stop with
  | none => s
  | some record =>
    if (strike record).isEmpty then s.completeStop.markOvertaken else { s with stop := some (strike record) }

/-- A tap has reached OFF (R48, R187). -/
def State.reportTap (s : State) (t : TapNo) : State :=
  s.report fun r => { r with taps := r.taps.filter (· ≠ t) }

/-- The trunk port has reached DETACHED (R124, R187). -/
def State.reportTrunk (s : State) : State :=
  s.report fun r => { r with trunk := false }

/-! ## Taps -/

/-- A change of a tap's state stores its TAP_STATE event (R50). -/
def State.changeTap (s : State) (t : TapNo) (f : Tap → Tap) (change : TapChange) : State :=
  (s.modTap t f).storeEvent (.tapState t change)

/-- The tap becomes OFF; its count of recessive bit times is dropped (R44, R46), which the model holds as 0 (DESIGN CHOICE, log
entry 8). -/
def Tap.turnedOff (t : Tap) : Tap :=
  { t with state := .off, synchronised := false, idleCount := 0 }

/-- The result fields of a CLOSE_TAP reply: the tap and its next sequence number (R44, R46). -/
def State.closeTapResult (s : State) (t : TapNo) : List Byte :=
  byteOf t.val :: bytes16 (s.ingress (tapIngress t)).nextSeq

/-! ## The trunk port -/

/-- f, the number of FAULT outcomes in the health history (R109). -/
def Trunk.faults (t : Trunk) : Nat := t.history.count .fault

/-- The receiving states (R110). -/
def TrunkState.receiving : TrunkState → Bool
  | .active | .degraded | .suspended => true
  | .detached | .joining => false

/-- The states in which the port transmits and acknowledges (R110, R117). -/
def TrunkState.transmitting : TrunkState → Bool
  | .active | .degraded => true
  | .detached | .joining | .suspended => false

/-- Whether the trunk line is at an idle point: 12 recessive bit times have passed since the last start delimiter, end of frame
or outcome (R2, R9, R114). -/
def Trunk.atIdlePoint (t : Trunk) : Bool := t.idleCount = Config.idleGap

/-- The result fields of a DETACH reply: the port's state and the next sequence number of ingress 6 (R124). -/
def State.detachResult (s : State) : List Byte :=
  s.trunk.state.code :: bytes16 (s.ingress trunkIngress).nextSeq

/-- A detach is completed: DETACHED with an empty history, TRUNK_STATE stored, a parked DETACH answered, and the arrival
reported to the controller (R124). -/
def State.completeDetach (s : State) : State :=
  let parked := s.trunk.parkedDetach
  let detached := { s with trunk :=
    { s.trunk with state := .detached, detachPending := false, parkedDetach := false, history := [], idleCount := 0
                   synchronised := false } }
  let stored := detached.storeEvent (.trunkState .detached 0)
  let answered := if parked then stored.answerParked .detach stored.detachResult else stored
  answered.reportTrunk

/-- The detach is completed if detach-pending is yes, no attempt is in flight and no frame is in progress (R124). -/
def State.detachIfIdle (s : State) : State :=
  if s.trunk.detachPending ∧ s.trunk.inFlight = none ∧ s.trunk.inProgress = none then s.completeDetach else s

/-- A start of frame at the trunk receiver: the slot decision for ingress 6, the frame in progress, no longer synchronised
(R114). -/
def State.trunkFrameStart (s : State) (sofStamp : Word32) : State :=
  let allocated := s.allocate trunkIngress sofStamp
  { allocated.1 with trunk :=
    { allocated.1.trunk with inProgress := some allocated.2, synchronised := false, idleCount := 0 } }

/-! ## Session end and the delivery queue -/

/-- What a RESEND or a session end does to an entry: SENT returns to WAITING, a SENDING entry not marked REMOVE takes mark
RETURN (R170, R172). -/
def DeliveryEntry.returned (e : DeliveryEntry) : DeliveryEntry :=
  match e.state, e.mark with
  | .sent, _ => { e with state := .waiting }
  | .sending, .none => { e with mark := .toReturn }
  | _, _ => e

/-- The outstanding count: entries SENDING or SENT (R166). -/
def Delivery.outstanding (d : Delivery) : Nat :=
  d.queue.countP fun e => e.state = .sending || e.state = .sent

/-- The number of SENT entries (R161). -/
def Delivery.sentCount (d : Delivery) : Nat :=
  d.queue.countP fun e => e.state = .sent

/-- A session end (R149, R172). -/
def State.endSession (s : State) : State :=
  { s with
    engine := { s.engine with session := .closed, inbox := [], cache := [], overtaken := none }
    delivery := { s.delivery with queue := s.delivery.queue.map DeliveryEntry.returned, window := 0 } }

/-! ## Resets -/

/-- The rate the strap pins choose (R131, chapter 0). -/
def strapRate (br1 br0 : Bool) : LineRate :=
  match br1, br0 with
  | false, false => .bit115200
  | false, true => .bit460800
  | true, false => .bit921600
  | true, true => .bit2000000

/-- What a soft reset keeps of an ingress: its settings, its tables and its generation (R53, R81, R130). -/
def Ingress.softReset (g : Ingress) : Ingress :=
  { g with nextSeq := 0, counters := .zero, dropsLatch := false }

/-- What a soft reset keeps of the store: the quotas (R33). -/
def Store.softReset (st : Store) : Store := { Store.initial with quota := st.quota }

/-- What a soft reset keeps of the relay block: Y, L and relay-in-degraded (R108). -/
def Relay.softReset (r : Relay) : Relay := { r with queue := [], head := none, gate := .opened }

/-- A soft reset, whole and at once (R192, with R33, R53, R81, R108, R130, R142, R163, R181). -/
def State.softReset (s : State) (br1 br0 : Bool) : State where
  part := .booting
  stop := none
  stamp := 0
  store := s.store.softReset
  ingresses := allIngresses.foldl (fun v (i : IngressNo) => v.set i (v.get i).softReset) s.ingresses
  taps := Vector.replicate _ .initial
  trunk := .initial
  relay := s.relay.softReset
  entries := Vector.replicate _ .initial
  delivery := .initial
  events := .initial
  txDone := []
  line := .initial (strapRate br1 br0)
  engine := .initial
  pending := s.pending

/-! ## Request execution -/

/-- Execution of the named request, if it is the one the engine executes now; otherwise nothing happens (log entry 3). -/
def State.serve (s : State) (code : Option RequestCode) (act : Request → State → State) : State :=
  match s.takeRequest code with
  | none => s
  | some (r, s') => act r s'

end Sys2Proof.Machine
end

