-- ==== Sys2Proof/Machine/Checks.lean ====
section
/-! DEFINITION. The checks of a request's fields and of the state it acts on: the first that fails decides status and detail
(R158). -/

namespace Sys2Proof.Machine

/-- The status and detail of a refused request (R158). -/
abbrev Refused := Status × Byte

/-- Field number `n` must hold a value its request accepts, or BAD_VALUE names the field. -/
def needField {α : Type} (n : Byte) : Option α → Except Refused α
  | some a => .ok a
  | none => .error (.badValue, n)

/-- A condition on field number `n`, or BAD_VALUE names the field. -/
def needValue (ok : Bool) (n : Byte) : Except Refused Unit :=
  if ok then .ok () else .error (.badValue, n)

/-- A condition on the state of what the request acts on, or STATE with the code of the present state. -/
def needState (ok : Bool) (code : Byte) : Except Refused Unit :=
  if ok then .ok () else .error (.state, code)

/-- The thing must not be occupied by an earlier request or operation, or BUSY. -/
def needIdle (ok : Bool) : Except Refused Unit :=
  if ok then .ok () else .error (.busy, 0)

/-- The request is refused, or goes on with what the checks found. -/
def State.afterCheck {α : Type} (s : State) (r : Request) (check : Except Refused α) (go : α → State) : State :=
  match check with
  | .error (status, detail) => s.refuse r status detail
  | .ok a => go a

end Sys2Proof.Machine
end

