-- ==== Sys2Proof/Machine/DeliveryRequests.lean ====
section
/-! DEFINITION. GRANT, ACK, RESEND and DISCARD_CAPTURES (chapter 9). -/

namespace Sys2Proof.Machine

/-- The execution of a GRANT (R166). -/
def State.runGrant (s : State) (r : Request) : State :=
  match r.body with
  | [_, b1] =>
    s.afterCheck r (needField 1 (numberIn 0 16 b1)) fun window =>
      State.answer { s with delivery := { s.delivery with window := window } } r .ok 0
        [byteOf window, byteOf s.delivery.outstanding]
  | _ => s

/-- GRANT (R166). -/
def execGrant (s : State) : Host.Outcome State Fault Refusal :=
  .next (s.serve (some .grant) fun r s => s.runGrant r)

/-- The queue cut behind the SENT entry that carries number `n`: the entries up to and with it, and the rest (R169). -/
def splitAtSent (n : Word16) : List DeliveryEntry → Option (List DeliveryEntry × List DeliveryEntry)
  | [] => none
  | e :: es =>
    if e.state = .sent ∧ e.number = n then some ([e], es)
    else (splitAtSent n es).map fun cut => (e :: cut.1, cut.2)

/-- The execution of an ACK (R169). -/
def State.runAck (s : State) (r : Request) : State :=
  match r.body with
  | [_, hi, lo] =>
    s.afterCheck r (needField 1 (splitAtSent (word16Of hi lo) s.delivery.queue)) fun (removed, left) =>
      State.answer
        { s with
          delivery := { s.delivery with queue := left }
          store := s.store.leaveAll .delivery (removed.map DeliveryEntry.slot) }
        r .ok 0 [hi, lo, byteOf removed.length, byteOf left.length]
  | _ => s

/-- ACK (R169). -/
def execAck (s : State) : Host.Outcome State Fault Refusal :=
  .next (s.serve (some .ack) fun r s => s.runAck r)

/-- Whether a SENDING entry carries a mark (R170, R171). -/
def Delivery.marked (d : Delivery) (mark : CompletionMark) : Bool :=
  d.queue.any fun e => e.state = .sending && e.mark = mark

/-- The execution of a RESEND (R170). -/
def State.runResend (s : State) (r : Request) : State :=
  let returned := { s with delivery := { s.delivery with queue := s.delivery.queue.map DeliveryEntry.returned } }
  returned.answer r .ok 0 [byteOf s.delivery.sentCount, flagByte (returned.delivery.marked .toReturn)]

/-- RESEND (R170). -/
def execResend (s : State) : Host.Outcome State Fault Refusal :=
  .next (s.serve (some .resend) fun r s => s.runResend r)

/-- The execution of a DISCARD_CAPTURES (R171). -/
def State.runDiscardCaptures (s : State) (r : Request) : State :=
  let removed := s.delivery.queue.filter fun e => e.state ≠ .sending
  let kept := (s.delivery.queue.filter fun e => e.state = .sending).map fun e => { e with mark := .toRemove }
  let discarded := { s with
    delivery := { s.delivery with queue := kept }
    store := s.store.leaveAll .delivery (removed.map DeliveryEntry.slot) }
  discarded.answer r .ok 0 [byteOf removed.length, flagByte (discarded.delivery.marked .toRemove)]

/-- DISCARD_CAPTURES (R171). -/
def execDiscardCaptures (s : State) : Host.Outcome State Fault Refusal :=
  .next (s.serve (some .discardCaptures) fun r s => s.runDiscardCaptures r)

end Sys2Proof.Machine
end

