-- ==== Sys2Proof/Machine/HostIn.lean ====
section
/-! DEFINITION. The host line inward: the receive hunter, link errors, the line break (chapter 7), and the arrival of a
request at the request engine (chapter 8.4). -/

namespace Sys2Proof.Machine

/-! ## Arrival -/

/-- Whether the pair (s, c) is that of a waiting or a parked request (R150, step 1). -/
def Engine.isWaiting (g : Engine) (r : Request) : Bool :=
  g.inbox.any (fun q => q.seq == r.seq && q.check == r.check) ||
    g.parked.any (fun p => p.seq == r.seq && p.check == r.check)

/-- The cached reply of a repeated request (R150, step 2). -/
def Engine.cached (g : Engine) (r : Request) : Option Reply :=
  (g.cache.find? fun c => c.seq == r.seq && c.check == r.check).map CacheEntry.reply

/-- A reply produced at an arrival is queued only while fewer than 8 replies are queued; otherwise the arrival is discarded as
if the message had been lost (R143, R150). -/
def State.replyAtArrival (s : State) (reply : Reply) : State :=
  if s.line.replies.length < Config.arrivalReplyBound then s.queueReply reply else s

/-- Whether a request is a HELLO, decided from the first byte of its body (R150). -/
def Request.isHello (r : Request) : Bool := r.body.head? == some RequestCode.hello.byte

/-- The arrival of a request: repeat of a waiting one, repeat of an answered one, NO_SESSION, FULL, or appended to the inbox
(R150, R151, R152). -/
def State.arrive (s : State) (r : Request) : State :=
  if s.engine.isWaiting r then s
  else
    match s.engine.cached r with
    | some reply => s.replyAtArrival reply
    | none =>
      if s.engine.session = .closed ∧ r.isHello = false then s.replyAtArrival (r.reply .noSession 0 [])
      else if Config.inboxCapacity ≤ s.engine.inbox.length then s.replyAtArrival (r.reply .full 0 [])
      else { s with engine := { s.engine with inbox := s.engine.inbox ++ [r] } }

/-! ## The hunter -/

/-- The hunter at work on a byte, or on kept bytes: its state, the link error count, and the requests accepted so far. -/
structure HunterRun where
  hunter : Hunter
  linkErrors : Word16
  accepted : List Request
  deriving DecidableEq, Repr

/-- A message is discarded: counted once, and the hunter returns to HUNT with nothing kept (R140). -/
def HunterRun.discard (r : HunterRun) : HunterRun :=
  { r with hunter := .initial, linkErrors := stopSucc r.linkErrors }

/-- A LEN byte of 0, 1 or 251 to 255 (R135). -/
def badLen (b : Byte) : Bool := b.toNat < 2 || 250 < b.toNat

/-- The judgement at the second CHECK byte: a wrong check is discarded and the kept bytes after the SYNC are hunted again by
`rehunt`; a wrong type is discarded; a REQUEST is accepted (R136, R138). -/
def HunterRun.judge (rehunt : List Byte → HunterRun → HunterRun) (high low : Byte) (r : HunterRun) : HunterRun :=
  let covered := (r.hunter.kept.drop 1).dropLast
  let check := messageCheck covered
  if check ≠ word16Of high low then rehunt (r.hunter.kept.drop 1 ++ [low]) r.discard
  else
    match covered with
    | _ :: type :: seq :: body =>
      if type = requestType then
        { r with hunter := .initial, accepted := r.accepted ++ [⟨seq, check, body⟩] }
      else r.discard
    | _ => r.discard

/-- A byte with a correct stop bit is examined in the hunter's present state (R135). -/
def HunterRun.examineWith (rehunt : List Byte → HunterRun → HunterRun) (r : HunterRun) (b : Byte) : HunterRun :=
  match r.hunter.phase with
  | .hunt => if b = syncByte then { r with hunter := ⟨.length, [b], 0, none⟩ } else r
  | .length =>
    if badLen b then r.discard else { r with hunter := ⟨.collect, r.hunter.kept ++ [b], b.toNat, none⟩ }
  | .collect =>
    { r with hunter :=
        ⟨if r.hunter.toCollect ≤ 1 then .check else .collect, r.hunter.kept ++ [b], r.hunter.toCollect - 1, none⟩ }
  | .check =>
    match r.hunter.checkHigh with
    | none => { r with hunter := { r.hunter with kept := r.hunter.kept ++ [b], checkHigh := some b } }
    | some high => r.judge rehunt high b

/-- The same with the re-examination of R138 carried out, `fuel` deep. A message found among kept bytes keeps fewer bytes than
the one discarded, so a depth of `rehuntDepth` is never used up. -/
def HunterRun.examine : Nat → HunterRun → Byte → HunterRun
  | 0, r, b => r.examineWith (fun _ r => r) b
  | fuel + 1, r, b => r.examineWith (fun bytes r => bytes.foldl (fun r b => HunterRun.examine fuel r b) r) b

/-- More than the 254 bytes a hunter can keep. -/
def rehuntDepth : Nat := 255

/-- The hunter's work is taken over by the part, and each accepted request arrives at the request engine, in order (R136). -/
def State.takeHunt (s : State) (r : HunterRun) : State :=
  r.accepted.foldl State.arrive { s with line := { s.line with hunter := r.hunter, linkErrors := r.linkErrors } }

/-- The hunter of the part, before a byte. -/
def State.hunt (s : State) : HunterRun := ⟨s.line.hunter, s.line.linkErrors, []⟩

/-- A message in collection is discarded and counted, and its bytes are not examined again (R132, R135, R137). -/
def State.discardMessage (s : State) : State := s.takeHunt s.hunt.discard

/-- BYTE_RECEIVED: the byte is examined in the hunter's present state, a bad LEN and a second CHECK byte included (R135); in
BOOTING it is ignored (R142). -/
def execByteReceived (byte : Byte) (s : State) : Host.Outcome State Fault Refusal :=
  .next <| if s.part = .booting then s else s.takeHunt (s.hunt.examine rehuntDepth byte)

/-- FRAMING_ERROR: ignored in HUNT, otherwise the message is discarded (R132). -/
def execFramingError (s : State) : Host.Outcome State Fault Refusal :=
  .next <| if s.part = .booting ∨ s.line.hunter.phase = .hunt then s else s.discardMessage

/-- BAD_LENGTH: a LEN byte of 0, 1 or 251 to 255 in LENGTH (R135). -/
def execBadLength (len : Byte) (s : State) : Host.Outcome State Fault Refusal :=
  .next <|
    if s.part ≠ .booting ∧ s.line.hunter.phase = .length ∧ badLen len = true then s.discardMessage else s

/-- GAP_EXPIRY: in HUNT no gap is measured; otherwise the message is discarded (R137). -/
def execGapExpiry (s : State) : Host.Outcome State Fault Refusal :=
  .next <| if s.part = .booting ∨ s.line.hunter.phase = .hunt then s else s.discardMessage

/-- MESSAGE_RECEIVED: the second CHECK byte arrives and the message is judged (R136, R138, R150). -/
def execMessageReceived (low : Byte) (s : State) : Host.Outcome State Fault Refusal :=
  .next <|
    if s.part ≠ .booting ∧ s.line.hunter.phase = .check ∧ s.line.hunter.checkHigh.isSome = true then
      s.takeHunt (s.hunt.examine rehuntDepth low)
    else s

/-- LINE_BREAK: the hunter drops any kept bytes uncounted, and an open session ends (R141); no effect in BOOTING (R142). -/
def execLineBreak (s : State) : Host.Outcome State Fault Refusal :=
  .next <|
    if s.part = .booting then s
    else
      let dropped := { s with line := { s.line with hunter := .initial } }
      if s.engine.session = .opened then dropped.endSession else dropped

end Sys2Proof.Machine
end

