-- ==== Sys2Proof/Machine/HostOut.lean ====
section
/-! DEFINITION. The host line outward: the outbound arbiter and the completions of the four message classes (chapters 7.6, 9
and 10.6). -/

namespace Sys2Proof.Machine

/-- The first WAITING entry becomes SENDING with completion mark none; the entry and the queue that results (R167). -/
def startFirstWaiting : List DeliveryEntry → Option (DeliveryEntry × List DeliveryEntry)
  | [] => none
  | e :: es =>
    if e.state = .waiting then some (e, { e with state := .sending, mark := .none } :: es)
    else (startFirstWaiting es).map fun found => (found.1, e :: found.2)

/-- HTX begins a message (R144). -/
def State.transmit (s : State) (kind : MessageClass) (bytes : List Byte) : State :=
  { s with line := { s.line with htx := some ⟨kind, bytes⟩ } }

/-- A notice carries the session epoch in its SEQ (R133). -/
def State.noticeBytes (s : State) (kind : MessageClass) (body : List Byte) : List Byte :=
  messageBytes kind.code s.engine.epoch body

/-- A CAPTURE notice starts, if the window lets one and an entry is WAITING (R166, R167). -/
def State.startCapture (s : State) : State :=
  if s.delivery.outstanding < s.delivery.window then
    match startFirstWaiting s.delivery.queue with
    | none => s
    | some (e, queue) =>
      let started := { s with delivery := { s.delivery with queue := queue } }
      started.transmit .capture
        (s.noticeBytes .capture (captureBody e.number (s.store.source e.slot) (s.store.record e.slot)))
  else s

/-- A notice starts, the session being OPEN: the oldest TX_DONE record, else the oldest event, which takes the lost count,
else a capture (R144, R176, R180). -/
def State.startNotice (s : State) : State :=
  match s.txDone, s.events.queue with
  | r :: _, _ => s.transmit .txDone (s.noticeBytes .txDone r.body)
  | [], e :: _ =>
    let taken := { s with events := { s.events with lost := 0 } }
    taken.transmit .event (s.noticeBytes .event (e.body s.events.lost))
  | [], [] => s.startCapture

/-- OUTBOUND_CHOICE: on a free transmitter, outside BOOTING, the oldest reply, else a notice in an OPEN session (R142,
R144). With nothing eligible nothing starts. -/
def execOutboundChoice (s : State) : Host.Outcome State Fault Refusal :=
  .next <|
    if s.part ≠ .booting ∧ s.line.htx = none then
      match s.line.replies with
      | r :: _ => s.transmit .reply r.bytes
      | [] => if s.engine.session = .opened then s.startNotice else s
    else s

/-- The transmitter is free again (R145). -/
def State.freeTransmitter (s : State) : State := { s with line := { s.line with htx := none } }

/-- The RESET reply: the OK that a RESET's execution queued (R190, R191; log entry 18). -/
def Reply.isReset (r : Reply) : Bool := r.code == RequestCode.reset.byte && r.status == .ok

/-- REPLY_COMPLETED: the reply leaves the reply queue; at a RESET reply the soft reset takes place (R143, R145, R191, R192). -/
def execReplyCompleted (br1 br0 : Bool) (s : State) : Host.Outcome State Fault Refusal :=
  .next <|
    if s.sends .reply then
      match s.line.replies with
      | r :: rest =>
        if r.isReset then s.softReset br1 br0
        else { s with line := { s.line with replies := rest, htx := none } }
      | [] => s.freeTransmitter
    else s

/-- What the completion of a CAPTURE notice makes of a SENDING entry that stays (R168). -/
def DeliveryEntry.completed (e : DeliveryEntry) : DeliveryEntry :=
  match e.state, e.mark with
  | .sending, .none => { e with state := .sent }
  | .sending, _ => { e with state := .waiting, mark := .none }
  | _, _ => e

/-- A SENDING entry marked REMOVE, which leaves at its completion (R168). -/
def DeliveryEntry.leavesAtCompletion (e : DeliveryEntry) : Bool := e.state = .sending && e.mark = .toRemove

/-- CAPTURE_COMPLETED (R145, R168). -/
def execCaptureCompleted (s : State) : Host.Outcome State Fault Refusal :=
  .next <|
    if s.sends .capture then
      let removed := (s.delivery.queue.filter DeliveryEntry.leavesAtCompletion).map DeliveryEntry.slot
      let kept := (s.delivery.queue.filter fun e => !e.leavesAtCompletion).map DeliveryEntry.completed
      { s.freeTransmitter with
        delivery := { s.delivery with queue := kept }
        store := s.store.leaveAll .delivery removed }
    else s

/-- TX_DONE_COMPLETED: the record leaves the front of the list and its entry becomes FREE (R145, R180). -/
def execTxDoneCompleted (s : State) : Host.Outcome State Fault Refusal :=
  .next <|
    if s.sends .txDone then
      match s.txDone with
      | r :: rest => { s.freeTransmitter with txDone := rest, entries := s.entries.set r.entry .initial }
      | [] => s.freeTransmitter
    else s

/-- EVENT_COMPLETED: the record leaves the front of the event queue (R145, R176). -/
def execEventCompleted (s : State) : Host.Outcome State Fault Refusal :=
  .next <|
    if s.sends .event then { s.freeTransmitter with events := { s.events with queue := s.events.queue.tail } } else s

end Sys2Proof.Machine
end

