-- ==== Sys2Proof/Machine/RelayRequests.lean ====
section
/-! DEFINITION. SET_RELAY, HOLD_RELAY, RELEASE_RELAY, FLUSH_RELAY, SEND and CANCEL (chapter 5). -/

namespace Sys2Proof.Machine

/-- The checks of SET_RELAY, in order; no Y is refused (R104). -/
def checkSetRelay (b2 b3 : Byte) : Except Refused (Nat × Bool) := do
  let limit ← needField 2 (numberIn 0 15 b2)
  let inDegraded ← needField 3 (flagOf b3)
  return (limit, inDegraded)

/-- The execution of a SET_RELAY (R104). -/
def State.runSetRelay (s : State) (r : Request) : State :=
  match r.body with
  | [_, y, b2, b3] =>
    s.afterCheck r (checkSetRelay b2 b3) fun (limit, inDegraded) =>
      State.answer
        { s with relay := { s.relay with yieldLimit := y, retryLimit := limit, inDegraded := inDegraded } } r .ok 0
        [y, byteOf limit, flagByte inDegraded]
  | _ => s

/-- SET_RELAY (R104). -/
def execSetRelay (s : State) : Host.Outcome State Fault Refusal :=
  .next (s.serve (some .setRelay) fun r s => s.runSetRelay r)

/-- The relay gate is set, and the reply carries its new state (R84). -/
def State.setGate (s : State) (r : Request) (gate : Gate) : State :=
  State.answer { s with relay := { s.relay with gate := gate } } r .ok 0 [gate.code]

/-- HOLD_RELAY (R84). -/
def execHoldRelay (s : State) : Host.Outcome State Fault Refusal :=
  .next (s.serve (some .holdRelay) fun r s => s.setGate r .held)

/-- RELEASE_RELAY (R84). -/
def execReleaseRelay (s : State) : Host.Outcome State Fault Refusal :=
  .next (s.serve (some .releaseRelay) fun r s => s.setGate r .opened)

/-- What a flush leaves of the relay block and the slots it removes: with the head in flight the head stays, flush-pending,
and the rest goes; otherwise all goes (R101). -/
def Relay.flush (k : Relay) (headInFlight : Bool) : Relay × List SlotNo :=
  if headInFlight then
    ({ k with queue := k.queue.take 1, head := k.head.map fun h => { h with flushPending := true } }, k.queue.drop 1)
  else ({ k with queue := [], head := none }, k.queue)

/-- The execution of a FLUSH_RELAY (R101). -/
def State.runFlushRelay (s : State) (r : Request) : State :=
  let flushed := s.relay.flush (s.trunk.inFlight = some .relayHead)
  State.answer { s with relay := flushed.1, store := s.store.leaveAll .relay flushed.2 } r .ok 0
    [byteOf flushed.2.length]

/-- FLUSH_RELAY (R101). -/
def execFlushRelay (s : State) : Host.Outcome State Fault Refusal :=
  .next (s.serve (some .flushRelay) fun r s => s.runFlushRelay r)

/-- The checks of SEND, in order (R86). -/
def State.checkSend (s : State) (b1 kindByte lengthByte : Byte) : Except Refused (EntryNo × FrameKind × Nat) := do
  let e ← needField 1 (indexOf Config.entryCount b1)
  let kind ← needField 3 (FrameKind.ofCode kindByte)
  let length ← needField 4 (numberIn 0 Config.maxPayload lengthByte)
  needState (s.part = .run) s.part.code
  needIdle ((s.entry e).state = .free)
  return (e, kind, length)

/-- The store takes a slot for a host entry's frame, and the entry becomes PENDING (R27, R86). -/
def State.placeHostFrame (s : State) (e : EntryNo) (n : SlotNo) (rest : List SlotNo) (f : Frame) : State :=
  let record : SlotRecord :=
    { seq := none, tagReceived := f.tag, tagOut := f.tag, kind := f.kind, length := f.length, payload := f.payload
      stamp := s.stamp, classified := none }
  { s with
    store := { s.store with slots := s.store.slots.set n (.held .host record { entry := true }), freeList := rest }
    entries := s.entries.set e
      { state := .pending, slot := some n, attempts := 0, cancelRequested := false, outcome := none } }

/-- The execution of a SEND that passed its checks. A free list without a slot is no state of the part (R27; log entry 13). -/
def State.sendFrame (s : State) (r : Request) (e : EntryNo) (f : Frame) : Host.Outcome State Fault Refusal :=
  match s.store.freeList with
  | [] => .fault .sendFoundNoSlot
  | n :: rest => .next ((s.placeHostFrame e n rest f).answer r .ok 0 (byteOf e.val :: bytes32 s.stamp))

/-- The execution of a SEND (R86). -/
def State.runSend (s : State) (r : Request) : Host.Outcome State Fault Refusal :=
  match r.body with
  | _ :: b1 :: t2 :: t1 :: t0 :: kindByte :: lengthByte :: payload =>
    match s.checkSend b1 kindByte lengthByte with
    | .error (status, detail) => .next (s.refuse r status detail)
    | .ok (e, kind, length) =>
      s.sendFrame r e { tag := tagOf t2 t1 t0, kind := kind, length := length, payload := payload }
  | _ => .next s

/-- SEND (R86, R27). -/
def execSend (s : State) : Host.Outcome State Fault Refusal :=
  match s.takeRequest (some .send) with
  | none => .next s
  | some (r, s') => s'.runSend r

/-- CANCEL for an entry, by its state (R89). -/
def State.cancelEntry (s : State) (r : Request) (e : EntryNo) : State :=
  match (s.entry e).state with
  | .pending => (s.entryDone e .cancelled).answer r .ok 0 [byteOf e.val, byteOf (s.entry e).attempts]
  | .inFlight => (s.modEntry e fun h => { h with cancelRequested := true }).answer r .deferred 0 [byteOf e.val]
  | .free | .done => s.refuse r .state (s.entry e).state.code

/-- The execution of a CANCEL (R89). -/
def State.runCancel (s : State) (r : Request) : State :=
  match r.body with
  | [_, b1] => s.afterCheck r (needField 1 (indexOf Config.entryCount b1)) fun e => s.cancelEntry r e
  | _ => s

/-- CANCEL (R89). -/
def execCancel (s : State) : Host.Outcome State Fault Refusal :=
  .next (s.serve (some .cancel) fun r s => s.runCancel r)

end Sys2Proof.Machine
end

