-- ==== Sys2Proof/Machine/Resets.lean ====
section
/-! DEFINITION. Power reset and the memory check (chapter 10.2, 10.3). -/

namespace Sys2Proof.Machine

/-- POWER_RESET: every block takes its power-on values, the straps are sampled, BOOTING begins (R183). The commands behind it
are what comes after the reset (log entry 25). -/
def execPowerReset (br1 br0 : Bool) (s : State) : Host.Outcome State Fault Refusal :=
  .next { State.reset with line := .initial (strapRate br1 br0), pending := s.pending }

/-- MEMORY_CHECK_COMPLETED: a correct pass enters CONFIG and stores PART_STATE CONFIG; after a pass that found a byte wrong
another pass starts and nothing records it (R184). -/
def execMemoryCheckCompleted (correct : Bool) (s : State) : Host.Outcome State Fault Refusal :=
  .next <|
    if s.part = .booting ∧ correct = true then
      State.storeEvent { s with part := .config } (.partState .config)
    else s

end Sys2Proof.Machine
end

