-- ==== Sys2Proof/Machine/SessionRequests.lean ====
section
/-! DEFINITION. BAD_REQUEST, HELLO and STATUS (chapter 8), START, STOP and RESET (chapter 10). -/

namespace Sys2Proof.Machine

/-- BAD_REQUEST: an empty body, an unknown code or a wrong length is refused without effect (R154). -/
def execBadRequest (s : State) : Host.Outcome State Fault Refusal :=
  .next (s.serve none fun r s => s.refuse r .badRequest 0)

/-- The next epoch in the series 1 to 255 (R147). -/
def nextEpoch (epoch : Byte) : Byte := if epoch = 0xFF#8 then 0x01#8 else epoch + 1

/-- The identity fields of the HELLO reply (R148). -/
def helloResult (epoch : Byte) : List Byte :=
  bytes16 Config.vendorCode ++ bytes16 Config.partCode ++
    [Config.revision, byteOf Config.slotCount, byteOf Config.tapCount, byteOf Config.entryCount,
     byteOf Config.relayCapacity, byteOf Config.deliveryCapacity, epoch]

/-- The execution of a HELLO, steps 1 to 6 of R147. -/
def State.runHello (s : State) (r : Request) : State :=
  let ended := if s.engine.session = .opened then s.endSession else s
  let opened := { ended with
    engine := { ended.engine with cache := [], epoch := nextEpoch ended.engine.epoch, session := .opened }
    delivery := { ended.delivery with window := 0 } }
  opened.answer r .ok 0 (helloResult opened.engine.epoch)

/-- HELLO (R147, R148). -/
def execHello (s : State) : Host.Outcome State Fault Refusal :=
  .next (s.serve (some .hello) fun r s => s.runHello r)

/-- The state byte of an ingress: a tap state code, or for ingress 6 a trunk state code (chapter 12.3). -/
def State.receiverCode (s : State) (i : IngressNo) : Byte :=
  if h : i.val < Config.tapCount then (s.tap ⟨i.val, h⟩).state.code else s.trunk.state.code

/-- The result fields of STATUS for an ingress (R51, R128). -/
def State.ingressStatus (s : State) (i : IngressNo) : List Byte :=
  let g := s.ingress i
  [s.receiverCode i, g.rate.code, g.stampPoint.code, byteOf (s.store.quota.get i), byteOf (s.store.use.get i)] ++
    bytes16 g.nextSeq ++ g.counters.bytes

/-- The attempts and pass-overs of the head, both 0 with the queue empty (R106). -/
def Relay.headStatus (r : Relay) : List Byte :=
  if r.queue.isEmpty then [0x00#8, 0x00#8] else [byteOf r.headRecord.attempts, r.headRecord.passOvers]

/-- The result fields of STATUS for the part (R161). -/
def State.partStatus (s : State) : List Byte :=
  [s.part.code] ++ bytes32 s.stamp ++
    [byteOf s.store.freeCount, s.trunk.state.code, byteOf s.trunk.faults, s.relay.gate.code, byteOf s.relay.queue.length] ++
    s.relay.headStatus ++ allEntries.map (fun e => (s.entry e).state.code) ++
    [byteOf s.delivery.queue.length, byteOf s.delivery.sentCount, byteOf s.delivery.window, byteOf s.events.queue.length] ++
    bytes16 s.events.lost ++ bytes16 s.line.linkErrors ++ [s.engine.epoch]

/-- The execution of a STATUS; for an ingress it clears that ingress's DROPS latch (R160, R161, R178). -/
def State.runStatus (s : State) (r : Request) : State :=
  match r.body with
  | [_, subject] =>
    s.afterCheck r (needField 1 (ingressOrAll subject)) fun
      | none => s.answer r .ok 0 s.partStatus
      | some i => (s.modIngress i fun g => { g with dropsLatch := false }).answer r .ok 0 (s.ingressStatus i)
  | _ => s

/-- STATUS (R160, R161). -/
def execStatus (s : State) : Host.Outcome State Fault Refusal :=
  .next (s.serve (some .status) fun r s => s.runStatus r)

/-- The execution of a START (R185). -/
def State.runStart (s : State) (r : Request) : State :=
  s.afterCheck r (needState (s.part = .config) s.part.code) fun _ =>
    (State.storeEvent { s with part := .run } (.partState .run)).answer r .ok 0 [PartState.run.code]

/-- START (R185). -/
def execStart (s : State) : Host.Outcome State Fault Refusal :=
  .next (s.serve (some .start) fun r s => s.runStart r)

/-- STOP closes a tap: OFF at once without a frame in progress, CLOSING with one; the arrival at OFF is reported (R48, R186). -/
def State.closeForStop (s : State) (t : TapNo) : State :=
  match (s.tap t).state, (s.tap t).inProgress with
  | .off, _ => s.reportTap t
  | .listen, some _ => s.changeTap t (fun tap => { tap with state := .closing }) .closing
  | .closing, _ => s
  | _, _ => (s.changeTap t Tap.turnedOff .off).reportTap t

/-- STOP detaches the trunk port; a port that is DETACHED, or whose detach completes at once, reports (R125, R186). -/
def State.detachForStop (s : State) : State :=
  if s.trunk.state = .detached then s.reportTrunk
  else State.detachIfIdle { s with trunk := { s.trunk with detachPending := true } }

/-- The execution of a STOP in RUN: STOPPING, the stop record, the taps in order, the trunk port; it completes here if nothing
is left to report and is parked otherwise (R186, R188). The record of the parked request is made first, so that a completion
within this execution answers it. A RESET waiting behind the STOP is executed after it (R153), at no moment at which either could come
first, so such a completion marks no reply as overtaken (R194). -/
def State.beginStop (s : State) (r : Request) : State :=
  let stopping := { s with part := .stopping, stop := some ⟨allTaps, true⟩ }
  let parked := (stopping.storeEvent (.partState .stopping)).park r .stop
  let closed := (allTaps.foldl State.closeForStop parked).detachForStop
  { closed with engine := { closed.engine with overtaken := none } }

/-- The execution of a STOP (R186). -/
def State.runStop (s : State) (r : Request) : State :=
  match s.part with
  | .run => s.beginStop r
  | .stopping => s.refuse r .busy 0
  | .config | .booting => s.answer r .ok 0 [0x00#8, 0x00#8]

/-- STOP (R186). -/
def execStop (s : State) : Host.Outcome State Fault Refusal :=
  .next (s.serve (some .stop) fun r s => s.runStop r)

/-- The execution of a RESET: the OK is queued and a reset is pending (R190). The reply of a STOP that completed at the moment of this
RESET goes behind the RESET reply and is never sent, unless it is on HTX already (R194, R190; log entry 30). -/
def State.runReset (s : State) (r : Request) : State :=
  let answered := s.answer r .ok 0 []
  let onLine := (answered.sends .reply).toNat
  { answered with
    line := { answered.line with
      replies := match s.engine.overtaken with
        | some x => sendBack onLine x answered.line.replies
        | none => answered.line.replies }
    engine := { answered.engine with resetPending := true, overtaken := none } }

/-- RESET (R190). -/
def execReset (s : State) : Host.Outcome State Fault Refusal :=
  .next (s.serve (some .reset) fun r s => s.runReset r)

end Sys2Proof.Machine
end

