-- ==== Sys2Proof/Machine/TapLine.lean ====
section
/-! DEFINITION. The line events of the tap receivers (chapter 3). -/

namespace Sys2Proof.Machine

/-- TAP_START_OF_FRAME: delivered by a tap in LISTEN and synchronised; the store grants or refuses a slot (R40, R20). A
dominant bit at any other tap is no start of frame (R36, R41). -/
def execTapStartOfFrame (t : TapNo) (s : State) : Host.Outcome State Fault Refusal :=
  .next <|
    let tap := s.tap t
    if tap.state = .listen ∧ tap.synchronised = true ∧ tap.inProgress = none then
      let allocated := s.allocate (tapIngress t) s.stamp
      allocated.1.modTap t fun tap =>
        { tap with inProgress := some allocated.2, synchronised := false, idleCount := 0 }
    else s

/-- The change a tap in LISTEN makes at the end of its frame: it stays after a valid one (R42) and goes to SYNC after an
invalid one (R43). -/
def State.listenFrameEnd (s : State) (t : TapNo) : Verdict → State
  | .valid _ => s.modTap t fun tap => { tap with inProgress := none, idleCount := 0 }
  | .invalidCheck => s.changeTap t
      (fun tap => { tap with state := .sync, synchronised := false, idleCount := 0, inProgress := none }) .syncCheck
  | .invalidFormat _ => s.changeTap t
      (fun tap => { tap with state := .sync, synchronised := false, idleCount := 0, inProgress := none }) .syncFormat

/-- The end of a closing tap's frame: OFF, TAP_STATE OFF stored, a parked CLOSE_TAP answered, the arrival reported to the
controller (R46, R48, R189). -/
def State.closingFrameEnd (s : State) (t : TapNo) : State :=
  let parked := (s.tap t).parkedClose
  let closed := s.changeTap t (fun tap => { tap.turnedOff with inProgress := none, parkedClose := false }) .off
  let answered := if parked then closed.answerParked (.closeTap t) (closed.closeTapResult t) else closed
  answered.reportTap t

/-- TAP_END_OF_FRAME: the frame in progress ends with the verdict its bits give (R4) and is handled (R42, R43), then the tap
stays, resynchronises or closes (R46). -/
def execTapEndOfFrame (t : TapNo) (bits : List Level) (s : State) : Host.Outcome State Fault Refusal :=
  .next <|
    match (s.tap t).inProgress, receive bits with
    | some p, some verdict =>
      match (s.tap t).state with
      | .listen => (s.endFrame (tapIngress t) p verdict).listenFrameEnd t verdict
      | .closing => (s.endFrame (tapIngress t) p verdict).closingFrameEnd t
      | .off | .sync => s
    | _, _ => s

/-- TAP_IDLE_GAP: a tap in SYNC has counted 12 recessive bit times, becomes LISTEN and synchronised (R39). -/
def execTapIdleGap (t : TapNo) (s : State) : Host.Outcome State Fault Refusal :=
  .next <|
    if (s.tap t).state = .sync then
      s.changeTap t (fun tap => { tap with state := .listen, synchronised := true, idleCount := Config.idleGap }) .listen
    else s

/-- TAP_RESYNCHRONISED: a tap in LISTEN has counted 12 recessive bit times since its end of frame; no event (R41). -/
def execTapResynchronised (t : TapNo) (s : State) : Host.Outcome State Fault Refusal :=
  .next <|
    let tap := s.tap t
    if tap.state = .listen ∧ tap.synchronised = false ∧ tap.inProgress = none then
      s.modTap t fun tap => { tap with synchronised := true, idleCount := Config.idleGap }
    else s

end Sys2Proof.Machine
end

