-- ==== Sys2Proof/Machine/TapRequests.lean ====
section
/-! DEFINITION. SET_TAP, OPEN_TAP, CLOSE_TAP (chapter 3) and SET_QUOTA (chapter 2.11). -/

namespace Sys2Proof.Machine

/-- The checks of SET_TAP, in order (R37). -/
def State.checkSetTap (s : State) (b1 b2 b3 : Byte) : Except Refused (TapNo × Rate × StampPoint) := do
  let t ← needField 1 (indexOf Config.tapCount b1)
  let rate ← needField 2 (Rate.ofCode b2)
  let point ← needField 3 (StampPoint.ofCode b3)
  needState ((s.tap t).state = .off) (s.tap t).state.code
  return (t, rate, point)

/-- The execution of a SET_TAP (R37). -/
def State.runSetTap (s : State) (r : Request) : State :=
  match r.body with
  | [_, b1, b2, b3] =>
    s.afterCheck r (s.checkSetTap b1 b2 b3) fun (t, rate, point) =>
      (s.modIngress (tapIngress t) fun g => { g with rate := rate, stampPoint := point }).answer r .ok 0
        [byteOf t.val, rate.code, point.code]
  | _ => s

/-- SET_TAP (R37). -/
def execSetTap (s : State) : Host.Outcome State Fault Refusal :=
  .next (s.serve (some .setTap) fun r s => s.runSetTap r)

/-- The checks of OPEN_TAP, in order (R38). -/
def State.checkOpenTap (s : State) (b1 : Byte) : Except Refused TapNo := do
  let t ← needField 1 (indexOf Config.tapCount b1)
  needState (s.part = .run) s.part.code
  needIdle (!(s.tap t).parkedClose)
  needState ((s.tap t).state = .off) (s.tap t).state.code
  return t

/-- The execution of an OPEN_TAP (R38). -/
def State.runOpenTap (s : State) (r : Request) : State :=
  match r.body with
  | [_, b1] =>
    s.afterCheck r (s.checkOpenTap b1) fun t =>
      (s.changeTap t (fun tap => { tap with state := .sync, synchronised := false, idleCount := 0 }) .syncOpened).answer
        r .ok 0 [byteOf t.val, TapState.sync.code]
  | _ => s

/-- OPEN_TAP (R38). -/
def execOpenTap (s : State) : Host.Outcome State Fault Refusal :=
  .next (s.serve (some .openTap) fun r s => s.runOpenTap r)

/-- A close that completes at once: OFF, TAP_STATE OFF stored, OK; the arrival is the last step (R44, R48, R187). -/
def State.closeNow (s : State) (r : Request) (t : TapNo) : State :=
  let closed := s.changeTap t Tap.turnedOff .off
  (closed.answer r .ok 0 (closed.closeTapResult t)).reportTap t

/-- CLOSE_TAP for a tap, by its state: at once (R44), parked with the tap CLOSING (R45), or on a tap already CLOSING refused or
parked (R47). -/
def State.closeTap (s : State) (r : Request) (t : TapNo) : State :=
  match (s.tap t).state, (s.tap t).inProgress with
  | .off, _ => s.answer r .ok 0 (s.closeTapResult t)
  | .listen, some _ =>
    (s.changeTap t (fun tap => { tap with state := .closing, parkedClose := true }) .closing).park r (.closeTap t)
  | .closing, _ =>
    if (s.tap t).parkedClose then s.refuse r .busy 0
    else (s.modTap t fun tap => { tap with parkedClose := true }).park r (.closeTap t)
  | _, _ => s.closeNow r t

/-- The execution of a CLOSE_TAP (R44, R45, R47). -/
def State.runCloseTap (s : State) (r : Request) : State :=
  match r.body with
  | [_, b1] => s.afterCheck r (needField 1 (indexOf Config.tapCount b1)) fun t => s.closeTap r t
  | _ => s

/-- CLOSE_TAP (R44, R45, R47). -/
def execCloseTap (s : State) : Host.Outcome State Fault Refusal :=
  .next (s.serve (some .closeTap) fun r s => s.runCloseTap r)

/-- The checks of SET_QUOTA, in order (R30). -/
def checkSetQuota (b1 b2 : Byte) : Except Refused (IngressNo × Nat) := do
  let i ← needField 1 (indexOf Config.ingressCount b1)
  let quota ← needField 2 (numberIn 1 88 b2)
  return (i, quota)

/-- The execution of a SET_QUOTA (R30, R31). -/
def State.runSetQuota (s : State) (r : Request) : State :=
  match r.body with
  | [_, b1, b2] =>
    s.afterCheck r (checkSetQuota b1 b2) fun (i, quota) =>
      State.answer { s with store := { s.store with quota := s.store.quota.set i quota } } r .ok 0
        [byteOf i.val, byteOf quota, byteOf (s.store.use.get i)]
  | _ => s

/-- SET_QUOTA (R30, R31). -/
def execSetQuota (s : State) : Host.Outcome State Fault Refusal :=
  .next (s.serve (some .setQuota) fun r s => s.runSetQuota r)

end Sys2Proof.Machine
end

