-- ==== Sys2Proof/Machine/Transmission.lean ====
section
/-! DEFINITION. The trunk arbiter and the outcomes of an attempt (chapters 5.5 to 5.9 and 6.6, 6.7). -/

namespace Sys2Proof.Machine

/-! ## The trunk arbiter -/

/-- Whether the trunk port's state admits the relay head: ACTIVE, or DEGRADED with relay-in-degraded on (R90). -/
def State.headAdmitted (s : State) : Bool :=
  s.trunk.state = .active || (s.trunk.state = .degraded && s.relay.inDegraded)

/-- The tag out of the relay head, if the head is a candidate (R90, R92). -/
def State.headCandidate (s : State) : Option Tag :=
  match s.relay.queue with
  | [] => none
  | n :: _ =>
    if s.relay.gate = .opened ∧ s.relay.headRecord.flushPending = false ∧ s.headAdmitted = true then
      some (s.store.record n).tagOut
    else none

/-- The tag of a host entry's slot (R92). -/
def State.entryTag (s : State) (e : EntryNo) : Tag :=
  (((s.entry e).slot.map s.store.record).getD .blank).tagOut

/-- The entry of the lowest tag, and among equal tags of the lowest index, of entries in ascending order (R92). -/
def lowestEntry (tagOf : EntryNo → Tag) : List EntryNo → Option EntryNo
  | [] => none
  | e :: es =>
    match lowestEntry tagOf es with
    | none => some e
    | some e' => if tagOf e' < tagOf e then some e' else some e

/-- The choice among the candidates: forced head, then the lowest tag, then a host entry before the head (R92). -/
def State.choose (s : State) : Option Candidate :=
  match s.headCandidate, lowestEntry s.entryTag s.pendingEntries with
  | none, none => none
  | some _, none => some .relayHead
  | none, some e => some (.entry e)
  | some tag, some e =>
    if 0 < s.relay.yieldLimit ∧ s.relay.yieldLimit ≤ s.relay.headRecord.passOvers then some .relayHead
    else if s.entryTag e ≤ tag then some (.entry e)
    else some .relayHead

/-- The conditions of a transmit opportunity but for the candidate. The line is at an idle point when the idle count is at an
idle gap; the count begins anew at every start delimiter, the part's own included, and at every outcome (R91, R2, R9). A port with
a frame in progress or an unsynchronised receiver is at none (R3; log entry 11). -/
def State.mayTransmit (s : State) : Bool :=
  s.trunk.state.transmitting && s.trunk.inFlight.isNone && !s.trunk.detachPending && s.part = .run &&
    s.trunk.atIdlePoint && s.trunk.synchronised && s.trunk.inProgress.isNone

/-- The slot of a candidate. -/
def State.candidateSlot (s : State) : Candidate → Option SlotNo
  | .relayHead => s.relay.queue.head?
  | .entry e => (s.entry e).slot

/-- The frame the port transmits: tag out, kind, length and payload of the slot in flight (R7). -/
def SlotRecord.frameOut (r : SlotRecord) : Frame :=
  { tag := r.tagOut, kind := r.kind, length := r.length, payload := r.payload }

/-- The pass-over of R93: the head was a candidate and a host entry was chosen. -/
def State.passedOver (s : State) (c : Candidate) : Option HeadRecord :=
  match c, s.headCandidate with
  | .entry _, some _ => s.relay.head.map fun h => { h with passOvers := stopSucc h.passOvers }
  | _, _ => s.relay.head

/-- The chosen candidate is put in flight and its attempt starts: the start delimiter is driven (R8, R91, R93). -/
def State.startAttempt (s : State) (c : Candidate) : State :=
  let record := ((s.candidateSlot c).map s.store.record).getD .blank
  { s with
    relay := { s.relay with head := s.passedOver c }
    entries := match c with
      | .entry e => s.entries.set e { s.entry e with state := .inFlight }
      | .relayHead => s.entries
    trunk := { s.trunk with
      inFlight := some c
      sending := record.frameOut.sentBits
      attemptStamp := s.stamp
      idleCount := 0 } }

/-- TRANSMIT_OPPORTUNITY (R91). Without a candidate the moment is no opportunity. -/
def execTransmitOpportunity (s : State) : Host.Outcome State Fault Refusal :=
  .next <|
    if s.mayTransmit then
      match s.choose with
      | some c => s.startAttempt c
      | none => s
    else s

/-! ## Outcomes -/

/-- Outcome SENT for the candidate (R95, R96). -/
def State.applySent (s : State) : Candidate → State
  | .relayHead => s.removeHead
  | .entry e => (s.modEntry e fun h => { h with attempts := h.attempts + 1 }).entryDone e .sent

/-- Outcome LOST for the candidate; attempts are unchanged (R97, R100, R101). -/
def State.applyLost (s : State) : Candidate → State
  | .relayHead => if s.relay.headRecord.flushPending then s.abandonHead .flushed else s
  | .entry e =>
    if (s.entry e).cancelRequested then s.entryDone e .cancelled
    else s.modEntry e fun h => { h with state := .pending }

/-- The head's attempts go up by one (R98). -/
def State.raiseHeadAttempts (s : State) : State :=
  { s with relay := { s.relay with head := s.relay.head.map fun h => { h with attempts := h.attempts + 1 } } }

/-- Outcome FAULT for the candidate: attempts go up by one, then flushed, abandoned beyond L, cancelled or kept (R98, R99,
R100, R101). -/
def State.applyFault (s : State) : Candidate → State
  | .relayHead =>
    let raised := s.raiseHeadAttempts
    if raised.relay.headRecord.flushPending then raised.abandonHead .flushed
    else if raised.relay.retryLimit < raised.relay.headRecord.attempts then raised.abandonHead .retries
    else raised
  | .entry e =>
    let raised := s.modEntry e fun h => { h with attempts := h.attempts + 1 }
    if (raised.entry e).cancelRequested then raised.entryDone e .cancelled
    else if raised.relay.retryLimit < (raised.entry e).attempts then raised.entryDone e .abandoned
    else raised.modEntry e fun h => { h with state := .pending }

/-- The candidate ceases to be in flight and the port stops driving; a new idle gap is needed before the next start delimiter,
the part's own or another node's (R94, R119, R9). -/
def State.endAttempt (s : State) : State :=
  { s with trunk := { s.trunk with inFlight := none, sending := [], idleCount := 0 } }

/-- The history with one more outcome, of which the last 16 are kept (R120). -/
def recordMark (history : List HealthMark) (m : HealthMark) : List HealthMark :=
  if Config.historyLength < (history ++ [m]).length then (history ++ [m]).drop 1 else history ++ [m]

/-- The state judged from f (R121). -/
def judgedState (state : TrunkState) (faults : Nat) : TrunkState :=
  match state with
  | .active => if 4 ≤ faults then .degraded else .active
  | .degraded => if 12 ≤ faults then .suspended else if faults ≤ 1 then .active else .degraded
  | state => state

/-- The port records an outcome and judges its state; a change stores one TRUNK_STATE event (R120, R121, R127). -/
def State.recordOutcome (s : State) (m : HealthMark) : State :=
  let history := recordMark s.trunk.history m
  let faults := history.count .fault
  let state := judgedState s.trunk.state faults
  { s with
    trunk := { s.trunk with history := history, state := state }
    events := if state = s.trunk.state then s.events else s.events.push (.trunkState state faults) s.stamp }

/-- Whether the levels read back give this outcome for the attempt in flight (R8, R9). -/
def State.outcomeIs (s : State) (read : List Level) (o : AttemptOutcome) : Bool :=
  attemptOutcome s.trunk.sending read == some o

/-- OUTCOME_SENT (R94, R95, R96, R120, R121, R124). -/
def execOutcomeSent (read : List Level) (s : State) : Host.Outcome State Fault Refusal :=
  .next <|
    match s.trunk.inFlight with
    | none => s
    | some c =>
      if s.outcomeIs read .sent then ((s.applySent c).endAttempt.recordOutcome .sent).detachIfIdle else s

/-- The frame that won the arbitration is received from another node, with the stamp of the part's own start delimiter, in a
receiving state with no detach pending (R8, R114, R123). -/
def State.followWinner (s : State) : State :=
  if s.trunk.state.receiving = true ∧ s.trunk.detachPending = false then s.trunkFrameStart s.trunk.attemptStamp else s

/-- OUTCOME_LOST (R8, R97, R100, R101, R124). The relay block applies the outcome before the slot decision for the frame that
won (log entry 10). -/
def execOutcomeLost (read : List Level) (s : State) : Host.Outcome State Fault Refusal :=
  .next <|
    match s.trunk.inFlight with
    | none => s
    | some c =>
      if s.outcomeIs read .lost then (s.applyLost c).endAttempt.followWinner.detachIfIdle else s

/-- OUTCOME_FAULT (R94, R98, R99, R100, R101, R120, R121, R124). -/
def execOutcomeFault (read : List Level) (s : State) : Host.Outcome State Fault Refusal :=
  .next <|
    match s.trunk.inFlight with
    | none => s
    | some c =>
      if s.outcomeIs read .fault then ((s.applyFault c).endAttempt.recordOutcome .fault).detachIfIdle else s

end Sys2Proof.Machine
end

