-- ==== Sys2Proof/Machine/TrunkLine.lean ====
section
/-! DEFINITION. The line events of the trunk receiver (chapter 6.4, 6.5). -/

namespace Sys2Proof.Machine

/-- TRUNK_START_OF_FRAME: in a receiving state, synchronised, at an idle point, with no detach pending, no attempt in flight and
no frame in progress (R114, R3, R9, R123). Any other dominant bit is no start of frame. -/
def execTrunkStartOfFrame (s : State) : Host.Outcome State Fault Refusal :=
  .next <|
    let k := s.trunk
    if k.state.receiving = true ∧ k.synchronised = true ∧ k.atIdlePoint = true ∧ k.detachPending = false ∧
        k.inFlight = none ∧ k.inProgress = none then
      s.trunkFrameStart s.stamp
    else s

/-- TRUNK_END_OF_FRAME: the frame in progress ends with the verdict its bits give and is handled; the acknowledge was driven
in ACTIVE and DEGRADED if the frame came to it without a fault; a pending detach is completed (R4, R6, R115, R116, R117). -/
def execTrunkEndOfFrame (bits : List Level) (s : State) : Host.Outcome State Fault Refusal :=
  .next <|
    match s.trunk.inProgress, receive bits with
    | some p, some verdict =>
      let handled := s.endFrame trunkIngress p verdict
      let ended := { handled with trunk :=
        { handled.trunk with
          inProgress := none
          idleCount := 0
          acknowledged := s.trunk.state.transmitting && verdict.reachedAcknowledge } }
      ended.detachIfIdle
    | _, _ => s

/-- TRUNK_JOIN_IDLE_GAP: a port in JOINING, with no frame left to finish, has counted 12 recessive bit times and becomes
ACTIVE and synchronised (R113). -/
def execTrunkJoinIdleGap (s : State) : Host.Outcome State Fault Refusal :=
  .next <|
    if s.trunk.state = .joining ∧ s.trunk.inProgress = none then
      let joined := { s with trunk :=
        { s.trunk with state := .active, synchronised := true, idleCount := Config.idleGap } }
      joined.storeEvent (.trunkState .active 0)
    else s

/-- TRUNK_RECEIVER_RESYNC: in a receiving state with nothing on the line, 12 recessive bit times have passed since the last end of
frame or since the part's own frame; the receiver is synchronised and the line is at an idle point (R114, R2, R9). -/
def execTrunkReceiverResync (s : State) : Host.Outcome State Fault Refusal :=
  .next <|
    if s.trunk.state.receiving = true ∧ s.trunk.inFlight = none ∧ s.trunk.inProgress = none then
      { s with trunk := { s.trunk with synchronised := true, idleCount := Config.idleGap } }
    else s

end Sys2Proof.Machine
end

