-- ==== Sys2Proof/Machine/TrunkRequests.lean ====
section
/-! DEFINITION. SET_TRUNK, ATTACH, DETACH and RESUME (chapter 6). -/

namespace Sys2Proof.Machine

/-- The checks of SET_TRUNK, in order (R111). -/
def State.checkSetTrunk (s : State) (b1 b2 : Byte) : Except Refused (Rate × StampPoint) := do
  let rate ← needField 1 (Rate.ofCode b1)
  let point ← needField 2 (StampPoint.ofCode b2)
  needState (s.trunk.state = .detached) s.trunk.state.code
  return (rate, point)

/-- The execution of a SET_TRUNK (R111). -/
def State.runSetTrunk (s : State) (r : Request) : State :=
  match r.body with
  | [_, b1, b2] =>
    s.afterCheck r (s.checkSetTrunk b1 b2) fun (rate, point) =>
      (s.modIngress trunkIngress fun g => { g with rate := rate, stampPoint := point }).answer r .ok 0
        [rate.code, point.code]
  | _ => s

/-- SET_TRUNK (R111). -/
def execSetTrunk (s : State) : Host.Outcome State Fault Refusal :=
  .next (s.serve (some .setTrunk) fun r s => s.runSetTrunk r)

/-- The checks of ATTACH, in order (R112). -/
def State.checkAttach (s : State) : Except Refused Unit := do
  needState (s.part = .run) s.part.code
  needState (s.trunk.state = .detached) s.trunk.state.code

/-- The execution of an ATTACH (R112). -/
def State.runAttach (s : State) (r : Request) : State :=
  s.afterCheck r s.checkAttach fun _ =>
    let joining := { s with trunk :=
      { s.trunk with state := .joining, history := [], idleCount := 0, synchronised := false } }
    (joining.storeEvent (.trunkState .joining 0)).answer r .ok 0 [TrunkState.joining.code]

/-- ATTACH (R112). -/
def execAttach (s : State) : Host.Outcome State Fault Refusal :=
  .next (s.serve (some .attach) fun r s => s.runAttach r)

/-- The execution of a DETACH, by the port's state and by what is pending already (R123). -/
def State.runDetach (s : State) (r : Request) : State :=
  if s.trunk.state = .detached then s.answer r .ok 0 s.detachResult
  else if s.trunk.detachPending = false then
    let parked := State.park { s with trunk := { s.trunk with detachPending := true, parkedDetach := true } } r .detach
    parked.detachIfIdle
  else if s.trunk.parkedDetach then s.refuse r .busy 0
  else State.park { s with trunk := { s.trunk with parkedDetach := true } } r .detach

/-- DETACH (R123, R124). -/
def execDetach (s : State) : Host.Outcome State Fault Refusal :=
  .next (s.serve (some .detach) fun r s => s.runDetach r)

/-- The checks of RESUME, in order (R122). -/
def State.checkResume (s : State) : Except Refused Unit := do
  needIdle (!s.trunk.detachPending)
  needState (s.trunk.state = .suspended) s.trunk.state.code

/-- The execution of a RESUME (R122). -/
def State.runResume (s : State) (r : Request) : State :=
  s.afterCheck r s.checkResume fun _ =>
    let joining := { s with trunk := { s.trunk with state := .joining, history := [], idleCount := 0 } }
    (joining.storeEvent (.trunkState .joining 0)).answer r .ok 0 [TrunkState.joining.code]

/-- RESUME (R122). -/
def execResume (s : State) : Host.Outcome State Fault Refusal :=
  .next (s.serve (some .resume) fun r s => s.runResume r)

end Sys2Proof.Machine
end

