-- ==== Sys2Proof/Machine/WindowRequests.lean ====
section
/-! DEFINITION. SET_WINDOW, SET_DEFAULT, READ_WINDOW, COMMIT and DISCARD_STAGED (chapter 4). -/

namespace Sys2Proof.Machine

/-- Whether a tag pattern has no 1 where the mask has a 0 (R58). -/
def insideMask (pattern mask : Tag) : Bool := pattern &&& ~~~mask == 0

/-- Whether an ingress may name a target: ingress 6 names neither RELAY nor BOTH (R58). -/
def targetAllowed (i : IngressNo) (target : Target) : Bool := i ≠ trunkIngress || !target.toRelay

/-- The rewrite that fields 9 and 10 give (R62, R63). -/
def rewriteOf (isPresent : Bool) (value : Tag) : Option Tag := if isPresent then some value else none

/-- The check of field 10 (R62). -/
def rewriteFits (isPresent : Bool) (value mask : Tag) : Bool :=
  if isPresent then insideMask value mask else value == 0

/-- The checks of SET_WINDOW over its sixteen field bytes, in order (R62). -/
def checkSetWindow : List Byte → Except Refused (IngressNo × WindowNo × Window)
  | [b1, b2, b3, m2, m1, m0, k2, k1, k0, b6, b7, b8, b9, w2, w1, w0] => do
    let i ← needField 1 (indexOf Config.ingressCount b1)
    let k ← needField 2 (indexOf Config.windowCount b2)
    let enabled ← needField 3 (flagOf b3)
    needValue (insideMask (tagOf m2 m1 m0) (tagOf k2 k1 k0)) 4
    let kinds ← needField 6 (Kinds.ofCode b6)
    let longest ← needField 7 (numberIn 0 Config.maxPayload b7)
    let targets ← needField 8 (Target.ofCode b8)
    needValue (targetAllowed i targets) 8
    let isPresent ← needField 9 (flagOf b9)
    needValue (rewriteFits isPresent (tagOf w2 w1 w0) (tagOf k2 k1 k0)) 10
    return (i, k,
      { enabled := enabled, matchTag := tagOf m2 m1 m0, mask := tagOf k2 k1 k0, kinds := kinds, longest := longest
        targets := targets, rewrite := rewriteOf isPresent (tagOf w2 w1 w0) })
  | _ => .error (.badRequest, 0)

/-- The staged table with one window replaced (R63). -/
def Ingress.stageWindow (g : Ingress) (k : WindowNo) (w : Window) : Ingress :=
  { g with staged := { g.staged with windows := g.staged.windows.set k w } }

/-- The execution of a SET_WINDOW (R62, R63). -/
def State.runSetWindow (s : State) (r : Request) : State :=
  s.afterCheck r (checkSetWindow (r.body.drop 1)) fun (i, k, w) =>
    (s.modIngress i fun g => g.stageWindow k w).answer r .ok 0
      ([byteOf i.val, byteOf k.val] ++ bytes16 (s.ingress i).generation)

/-- SET_WINDOW (R62, R63). -/
def execSetWindow (s : State) : Host.Outcome State Fault Refusal :=
  .next (s.serve (some .setWindow) fun r s => s.runSetWindow r)

/-- The checks of SET_DEFAULT, in order (R64). -/
def checkSetDefault (b1 b2 : Byte) : Except Refused (IngressNo × Target) := do
  let i ← needField 1 (indexOf Config.ingressCount b1)
  let target ← needField 2 (Target.ofCode b2)
  needValue (targetAllowed i target) 2
  return (i, target)

/-- The execution of a SET_DEFAULT (R64). -/
def State.runSetDefault (s : State) (r : Request) : State :=
  match r.body with
  | [_, b1, b2] =>
    s.afterCheck r (checkSetDefault b1 b2) fun (i, target) =>
      (s.modIngress i fun g => { g with staged := { g.staged with default := target } }).answer r .ok 0
        (byteOf i.val :: bytes16 (s.ingress i).generation)
  | _ => s

/-- SET_DEFAULT (R64). -/
def execSetDefault (s : State) : Host.Outcome State Fault Refusal :=
  .next (s.serve (some .setDefault) fun r s => s.runSetDefault r)

/-- The checks of READ_WINDOW, in order; an index of 8 names the default action and is `none` (R66). -/
def checkReadWindow (b1 b2 b3 : Byte) : Except Refused (IngressNo × Copy × Option WindowNo) := do
  let i ← needField 1 (indexOf Config.ingressCount b1)
  let copy ← needField 2 (Copy.ofCode b2)
  let index ← needField 3 (if b3 = 0x08#8 then some none else (indexOf Config.windowCount b3).map some)
  return (i, copy, index)

/-- A copy of an ingress's table (R54). -/
def Ingress.copy (g : Ingress) : Copy → Table
  | .active => g.active
  | .staged => g.staged

/-- The result fields of READ_WINDOW (R66, chapter 12.3). -/
def Ingress.readWindow (g : Ingress) (i : IngressNo) (copy : Copy) : Option WindowNo → List Byte
  | some k => [byteOf i.val, copy.code, byteOf k.val] ++ bytes16 g.generation ++ ((g.copy copy).windows.get k).bytes
  | none => [byteOf i.val, copy.code, 0x08#8] ++ bytes16 g.generation ++ [(g.copy copy).default.code]

/-- The execution of a READ_WINDOW, which changes nothing (R66). -/
def State.runReadWindow (s : State) (r : Request) : State :=
  match r.body with
  | [_, b1, b2, b3] =>
    s.afterCheck r (checkReadWindow b1 b2 b3) fun (i, copy, index) =>
      s.answer r .ok 0 ((s.ingress i).readWindow i copy index)
  | _ => s

/-- READ_WINDOW (R66). -/
def execReadWindow (s : State) : Host.Outcome State Fault Refusal :=
  .next (s.serve (some .readWindow) fun r s => s.runReadWindow r)

/-- A commit of one ingress: staged copied to active, the generation up by one, from 65535 to 0 (R67). -/
def Ingress.commit (g : Ingress) : Ingress := { g with active := g.staged, generation := g.generation + 1 }

/-- Active copied back over staged (R65). -/
def Ingress.discardStaged (g : Ingress) : Ingress := { g with staged := g.active }

/-- The same change to every ingress, as one event (R65, R68). -/
def State.modIngresses (s : State) (f : Ingress → Ingress) : State :=
  allIngresses.foldl (fun s i => s.modIngress i f) s

/-- The execution of a COMMIT (R67, R68). -/
def State.runCommit (s : State) (r : Request) : State :=
  match r.body with
  | [_, b1] =>
    s.afterCheck r (needField 1 (ingressOrAll b1)) fun
      | some i =>
        let committed := s.modIngress i Ingress.commit
        committed.answer r .ok 0 (byteOf i.val :: bytes16 (committed.ingress i).generation)
      | none =>
        let committed := s.modIngresses Ingress.commit
        committed.answer r .ok 0 (allIngresses.flatMap fun i => bytes16 (committed.ingress i).generation)
  | _ => s

/-- COMMIT (R67, R68). -/
def execCommit (s : State) : Host.Outcome State Fault Refusal :=
  .next (s.serve (some .commit) fun r s => s.runCommit r)

/-- The execution of a DISCARD_STAGED (R65). -/
def State.runDiscardStaged (s : State) (r : Request) : State :=
  match r.body with
  | [_, b1] =>
    s.afterCheck r (needField 1 (ingressOrAll b1)) fun
      | some i => (s.modIngress i Ingress.discardStaged).answer r .ok 0 [b1]
      | none => (s.modIngresses Ingress.discardStaged).answer r .ok 0 [b1]
  | _ => s

/-- DISCARD_STAGED (R65). -/
def execDiscardStaged (s : State) : Host.Outcome State Fault Refusal :=
  .next (s.serve (some .discardStaged) fun r s => s.runDiscardStaged r)

end Sys2Proof.Machine
end

