-- ==== Sys2Proof/Machine/Dispatch.lean ====
section
/-! DEFINITION. The meaning of each command, one arm per row of spec/opcode_table.json, in the table's order. -/

namespace Sys2Proof.Machine

def exec (i : Instr) (s : State) : Host.Outcome State Fault Refusal :=
  match i with
  | .powerReset br1 br0 => Sys2Proof.Machine.execPowerReset br1 br0 s
  | .memoryCheckCompleted correct => Sys2Proof.Machine.execMemoryCheckCompleted correct s
  | .tapStartOfFrame t => Sys2Proof.Machine.execTapStartOfFrame t s
  | .tapEndOfFrame t bits => Sys2Proof.Machine.execTapEndOfFrame t bits s
  | .tapIdleGap t => Sys2Proof.Machine.execTapIdleGap t s
  | .tapResynchronised t => Sys2Proof.Machine.execTapResynchronised t s
  | .trunkStartOfFrame => Sys2Proof.Machine.execTrunkStartOfFrame s
  | .trunkEndOfFrame bits => Sys2Proof.Machine.execTrunkEndOfFrame bits s
  | .trunkJoinIdleGap => Sys2Proof.Machine.execTrunkJoinIdleGap s
  | .trunkReceiverResync => Sys2Proof.Machine.execTrunkReceiverResync s
  | .transmitOpportunity => Sys2Proof.Machine.execTransmitOpportunity s
  | .outcomeSent read => Sys2Proof.Machine.execOutcomeSent read s
  | .outcomeLost read => Sys2Proof.Machine.execOutcomeLost read s
  | .outcomeFault read => Sys2Proof.Machine.execOutcomeFault read s
  | .framingError => Sys2Proof.Machine.execFramingError s
  | .badLength len => Sys2Proof.Machine.execBadLength len s
  | .gapExpiry => Sys2Proof.Machine.execGapExpiry s
  | .messageReceived low => Sys2Proof.Machine.execMessageReceived low s
  | .lineBreak => Sys2Proof.Machine.execLineBreak s
  | .outboundChoice => Sys2Proof.Machine.execOutboundChoice s
  | .replyCompleted br1 br0 => Sys2Proof.Machine.execReplyCompleted br1 br0 s
  | .captureCompleted => Sys2Proof.Machine.execCaptureCompleted s
  | .txDoneCompleted => Sys2Proof.Machine.execTxDoneCompleted s
  | .eventCompleted => Sys2Proof.Machine.execEventCompleted s
  | .badRequest => Sys2Proof.Machine.execBadRequest s
  | .hello => Sys2Proof.Machine.execHello s
  | .status => Sys2Proof.Machine.execStatus s
  | .start => Sys2Proof.Machine.execStart s
  | .stop => Sys2Proof.Machine.execStop s
  | .reset => Sys2Proof.Machine.execReset s
  | .setTap => Sys2Proof.Machine.execSetTap s
  | .openTap => Sys2Proof.Machine.execOpenTap s
  | .closeTap => Sys2Proof.Machine.execCloseTap s
  | .setQuota => Sys2Proof.Machine.execSetQuota s
  | .setWindow => Sys2Proof.Machine.execSetWindow s
  | .setDefault => Sys2Proof.Machine.execSetDefault s
  | .readWindow => Sys2Proof.Machine.execReadWindow s
  | .commit => Sys2Proof.Machine.execCommit s
  | .discardStaged => Sys2Proof.Machine.execDiscardStaged s
  | .setRelay => Sys2Proof.Machine.execSetRelay s
  | .holdRelay => Sys2Proof.Machine.execHoldRelay s
  | .releaseRelay => Sys2Proof.Machine.execReleaseRelay s
  | .flushRelay => Sys2Proof.Machine.execFlushRelay s
  | .send => Sys2Proof.Machine.execSend s
  | .cancel => Sys2Proof.Machine.execCancel s
  | .setTrunk => Sys2Proof.Machine.execSetTrunk s
  | .attach => Sys2Proof.Machine.execAttach s
  | .detach => Sys2Proof.Machine.execDetach s
  | .resume => Sys2Proof.Machine.execResume s
  | .grant => Sys2Proof.Machine.execGrant s
  | .ack => Sys2Proof.Machine.execAck s
  | .resend => Sys2Proof.Machine.execResend s
  | .discardCaptures => Sys2Proof.Machine.execDiscardCaptures s
  | .byteReceived byte => Sys2Proof.Machine.execByteReceived byte s

end Sys2Proof.Machine
end

