-- ==== Sys2Proof/WellFormed.lean ====
section
/-! DEFINITION. Which commands name an event that can happen at all, whatever the state of the part. -/

namespace Sys2Proof

/-- An end of frame carries bits that end a frame exactly at the last of them (R4); an outcome carries at least the bit at
which it is delivered (R8, R9); a bad length is a LEN byte of 0, 1 or 251 to 255 (R135). -/
def Instr.wellFormed : Instr → Bool
  | .tapEndOfFrame _ bits => (Machine.receive bits).isSome
  | .trunkEndOfFrame bits => (Machine.receive bits).isSome
  | .outcomeSent read => !read.isEmpty
  | .outcomeLost read => !read.isEmpty
  | .outcomeFault read => !read.isEmpty
  | .badLength len => Machine.badLen len
  | .powerReset _ _ | .memoryCheckCompleted _ | .tapStartOfFrame _ | .tapIdleGap _ | .tapResynchronised _ => true
  | .trunkStartOfFrame | .trunkJoinIdleGap | .trunkReceiverResync | .transmitOpportunity => true
  | .framingError | .gapExpiry | .messageReceived _ | .lineBreak | .byteReceived _ => true
  | .outboundChoice | .replyCompleted _ _ | .captureCompleted | .txDoneCompleted | .eventCompleted => true
  | .badRequest | .hello | .status | .start | .stop | .reset => true
  | .setTap | .openTap | .closeTap | .setQuota => true
  | .setWindow | .setDefault | .readWindow | .commit | .discardStaged => true
  | .setRelay | .holdRelay | .releaseRelay | .flushRelay | .send | .cancel => true
  | .setTrunk | .attach | .detach | .resume => true
  | .grant | .ack | .resend | .discardCaptures => true

end Sys2Proof
end

