-- ==== Sys2Proof/Safety.lean ====
section
/-! DEFINITION. The terms the statements use: the laws of the spec that hold in every state of the part, each as a decidable
property, and the state a request's execution leaves. -/

namespace Sys2Proof.Machine

/-! ## Laws over settings and tables -/

/-- The law of a window record: match and rewrite inside the mask, longest at most 32, a target its ingress may name (R55,
R58). -/
abbrev Window.Lawful (i : IngressNo) (w : Window) : Prop :=
  w.matchTag &&& ~~~w.mask = 0 ∧ w.rewrite.getD 0 &&& ~~~w.mask = 0 ∧ w.longest ≤ 32 ∧
    (i = 6 → w.targets ≠ .relay ∧ w.targets ≠ .both)

/-- The law of a table (R58). -/
abbrev Table.Lawful (i : IngressNo) (t : Table) : Prop :=
  (∀ k : WindowNo, (t.windows.get k).Lawful i) ∧ (i = 6 → t.default ≠ .relay ∧ t.default ≠ .both)

/-- Both tables of every ingress keep the law (R58). -/
abbrev State.TablesLawful (s : State) : Prop :=
  ∀ i : IngressNo, (s.ingress i).active.Lawful i ∧ (s.ingress i).staged.Lawful i

/-- Quotas are 1 to 88, L is at most 15, W is at most 16 (R18, R103, R166). -/
abbrev State.SettingsInRange (s : State) : Prop :=
  (∀ i : IngressNo, 1 ≤ s.store.quota.get i ∧ s.store.quota.get i ≤ 88) ∧ s.relay.retryLimit ≤ 15 ∧
    s.delivery.window ≤ 16

/-- The queues hold no more than their capacity (R82, R164, R174, R153, R156). -/
abbrev State.QueuesBounded (s : State) : Prop :=
  s.relay.queue.length ≤ 64 ∧ s.delivery.queue.length ≤ 32 ∧ s.events.queue.length ≤ 16 ∧
    s.engine.inbox.length ≤ 4 ∧ s.engine.cache.length ≤ 8

/-- The stored event records carry consecutive numbers that end just before the next event number (R174). -/
abbrev State.EventNumbersConsecutive (s : State) : Prop :=
  s.events.queue.map EventRecord.number =
    (List.range s.events.queue.length).map fun k =>
      s.events.nextNumber - BitVec.ofNat 16 (s.events.queue.length - k)

/-! ## Laws of the frame store -/

/-- The frame in progress at an ingress. -/
def State.inProgressAt (s : State) (i : IngressNo) : Option InProgress :=
  if h : i.val < Config.tapCount then (s.tap ⟨i.val, h⟩).inProgress else s.trunk.inProgress

/-- The holder set of a slot; empty while FREE or FILLING (R16). -/
def Slot.holders : Slot → Holders
  | .held _ _ h => h
  | .free | .filling _ => {}

/-- A slot is in the free list exactly when it is FREE, and at most once (R17). -/
abbrev State.FreeListExact (s : State) : Prop :=
  s.store.freeList.Nodup ∧ ∀ n : SlotNo, n ∈ s.store.freeList ↔ s.store.slot n = .free

/-- The use count of an ingress is the number of its FILLING and HELD slots (R18). -/
abbrev State.UseExact (s : State) : Prop :=
  ∀ i : IngressNo, s.store.use.get i = s.store.slots.toList.countP fun x => x.usedBy = some i

/-- The relay queue names exactly the slots with holder RELAY, the delivery queue exactly those with DELIVERY, each slot at
most once (R16). -/
abbrev State.QueuesNameHolders (s : State) : Prop :=
  s.relay.queue.Nodup ∧ (s.delivery.queue.map DeliveryEntry.slot).Nodup ∧
    ∀ n : SlotNo, (n ∈ s.relay.queue ↔ (s.store.slot n).holders.relay = true) ∧
      (n ∈ s.delivery.queue.map DeliveryEntry.slot ↔ (s.store.slot n).holders.delivery = true)

/-- Whether a slot holds a host entry's frame: HELD with ingress 7. -/
def Slot.ofHost : Slot → Bool
  | .held .host _ _ => true
  | .held (.ingress _) _ _ | .free | .filling _ => false

/-- The entries whose slot a slot is. -/
abbrev State.entriesAt (s : State) (n : SlotNo) : List EntryNo :=
  allEntries.filter fun e => (s.entry e).slot = some n

/-- A HELD slot of ingress 7 has exactly the holder ENTRY, and it is the slot of exactly one host entry; no other slot is the
slot of an entry (R16). -/
abbrev State.EntrySlotsExact (s : State) : Prop :=
  ∀ n : SlotNo, (s.entriesAt n).length = (s.store.slot n).ofHost.toNat ∧
    ((s.store.slot n).holders.entry = true → (s.store.slot n).ofHost = true) ∧
    ((s.store.slot n).ofHost = true → (s.store.slot n).holders = { entry := true })

/-- A HELD slot has a holder, and its record a length of at most 32 and as many payload bytes for DATA, none for QUERY. Of an
ingress 0 to 6 it has a sequence number, a generation and a window index, and at ingress 6 never the holder RELAY; of ingress 7 it
has none of the three (R14, R16). -/
def Slot.complete : Slot → Bool
  | .held (.ingress i) r h =>
    !h.isEmpty && r.frameOut.valid && r.seq.isSome && r.classified.isSome && !(i = trunkIngress && h.relay)
  | .held .host r h => !h.isEmpty && r.frameOut.valid && r.seq.isNone && r.classified.isNone
  | .free | .filling _ => true

/-- Every slot is complete. -/
abbrev State.HeldRecordsComplete (s : State) : Prop := ∀ n : SlotNo, (s.store.slot n).complete = true

/-- The slot a frame in progress was granted. -/
def InProgress.slotNo : InProgress → Option SlotNo
  | .stored n _ => some n
  | .unstored _ => none

/-- A slot is FILLING for an ingress exactly when it is the slot of that ingress's frame in progress (R15, R22). -/
abbrev State.FillingExact (s : State) : Prop :=
  ∀ n : SlotNo, ∀ i : IngressNo,
    s.store.slot n = .filling i ↔ (s.inProgressAt i).bind InProgress.slotNo = some n

/-- The number of FREE slots is never less than the reserve need (R19). -/
abbrev State.ReserveKept (s : State) : Prop := s.reserveNeed ≤ s.store.freeCount

/-- The laws of the frame store together. -/
abbrev State.StoreConsistent (s : State) : Prop :=
  s.FreeListExact ∧ s.UseExact ∧ s.QueuesNameHolders ∧ s.EntrySlotsExact ∧ s.HeldRecordsComplete ∧ s.FillingExact ∧
    s.ReserveKept

/-! ## Laws of the relay block and the trunk port -/

/-- There is a head record exactly while the relay queue is not empty (R83). -/
abbrev State.HeadExact (s : State) : Prop := s.relay.head.isSome = !s.relay.queue.isEmpty

/-- The record of a host entry: a slot exactly while PENDING or IN_FLIGHT, an outcome exactly while DONE, attempts 0 while
FREE, cancel-requested only while IN_FLIGHT, attempts at most 16 (R85). -/
abbrev HostEntry.Lawful (e : HostEntry) : Prop :=
  (e.slot.isSome = e.holdsSlot) ∧ (e.outcome.isSome = decide (e.state = .done)) ∧ (e.state = .free → e.attempts = 0) ∧
    (e.cancelRequested = true → e.state = .inFlight) ∧ e.attempts ≤ 16 ∧ (e.holdsSlot = true → e.attempts ≤ 15)

/-- Every host entry keeps its law; a host entry is DONE exactly when the TX_DONE list holds a record for it, one at most
(R85, R179). -/
abbrev State.EntriesLawful (s : State) : Prop :=
  (∀ e : EntryNo, (s.entry e).Lawful) ∧ (s.txDone.map TxDone.entry).Nodup ∧
    ∀ e : EntryNo, (s.entry e).state = .done ↔ e ∈ s.txDone.map TxDone.entry

/-- A host entry is IN_FLIGHT exactly when its attempt is in flight, so at most one is; the relay head in flight stands in
the queue; flush-pending stands only on a head in flight (R83, R87, R91, R101). -/
abbrev State.FlightExact (s : State) : Prop :=
  (∀ e : EntryNo, (s.entry e).state = .inFlight ↔ s.trunk.inFlight = some (.entry e)) ∧
    (s.trunk.inFlight = some .relayHead → s.relay.queue ≠ []) ∧
    (s.relay.headRecord.flushPending = true → s.trunk.inFlight = some .relayHead) ∧
    s.relay.headRecord.attempts ≤ 15

/-- The health history and the state judged from it: at most 16 outcomes, none in DETACHED and JOINING, at most 3 faults in
ACTIVE, 2 to 11 in DEGRADED, 12 in SUSPENDED; an attempt is in flight only in ACTIVE and DEGRADED (R119, R120, R121). -/
abbrev State.HealthJudged (s : State) : Prop :=
  s.trunk.history.length ≤ 16 ∧ (s.trunk.inFlight.isSome = true → s.trunk.state.transmitting = true) ∧
    (s.trunk.state = .detached ∨ s.trunk.state = .joining → s.trunk.history = []) ∧
    (s.trunk.state = .active → s.trunk.faults ≤ 3) ∧
    (s.trunk.state = .degraded → 2 ≤ s.trunk.faults ∧ s.trunk.faults ≤ 11) ∧
    (s.trunk.state = .suspended → s.trunk.faults = 12)

/-- The trunk port: DETACHED has nothing pending, in flight, in progress or synchronised; a detach is pending only over an
attempt or a frame in progress; the two never stand together; a parked DETACH has a detach pending; at an idle point the receiver
is synchronised and nothing is on the line; the idle count is at most 12 (R109, R119, R123, R124, R2, R9). -/
abbrev State.TrunkLawful (s : State) : Prop :=
  (s.trunk.state = .detached → s.trunk.inProgress = none ∧ s.trunk.synchronised = false ∧ s.trunk.detachPending = false) ∧
    (s.trunk.detachPending = true → s.trunk.inFlight.isSome ∨ s.trunk.inProgress.isSome) ∧
    (s.trunk.inFlight.isSome → s.trunk.inProgress = none) ∧
    (s.trunk.inProgress.isSome → s.trunk.synchronised = false) ∧
    (s.trunk.parkedDetach = true → s.trunk.detachPending = true) ∧
    (s.trunk.idleCount = 12 → s.trunk.synchronised = true ∧ s.trunk.inFlight = none ∧ s.trunk.inProgress = none) ∧
    s.trunk.idleCount ≤ 12

/-! ## Laws of the taps -/

/-- A tap: no frame in progress in OFF and SYNC, one in CLOSING, synchronised only in LISTEN without one, a close parked only
in CLOSING (R35, R36). -/
abbrev Tap.Lawful (t : Tap) : Prop :=
  (t.state = .off ∨ t.state = .sync → t.inProgress = none) ∧ (t.state = .closing → t.inProgress.isSome) ∧
    (t.synchronised = true → t.state = .listen ∧ t.inProgress = none) ∧ (t.parkedClose = true → t.state = .closing)

/-- Every tap keeps its law. -/
abbrev State.TapsLawful (s : State) : Prop := ∀ t : TapNo, (s.tap t).Lawful

/-! ## Laws of the delivery queue -/

/-- At most one entry is SENDING, and one is exactly while a CAPTURE notice is on HTX; a mark stands only on it; every SENT
entry stands before every other, and before a SENDING entry without a mark only SENT entries stand; at most 16 entries are
outstanding (R164, R166, R167). -/
abbrev State.DeliveryLawful (s : State) : Prop :=
  (s.delivery.queue.countP fun e => e.state = .sending) = (if s.sends .capture then 1 else 0) ∧
    (∀ e ∈ s.delivery.queue, e.mark ≠ .none → e.state = .sending) ∧
    s.delivery.queue.Pairwise (fun a b =>
      (b.state = .sent → a.state = .sent) ∧ (b.state = .sending → b.mark = .none → a.state = .sent)) ∧
    s.delivery.outstanding ≤ 16

/-! ## Laws of the request engine and the controller -/

/-- The subjects of the parked requests. -/
abbrev State.parkedSubjects (s : State) : List ParkedSubject := s.engine.parked.map Parked.subject

/-- At most one request is parked for each subject, and the tap, the port and the controller know of it; queued replies and
parked requests together never exceed 16; a reply kept as overtaken is a STOP's, and the oldest request is then the RESET that was
waiting when STOP completed (R143, R155, R194). -/
abbrev State.RepliesBounded (s : State) : Prop :=
  s.parkedSubjects.Nodup ∧ (∀ t : TapNo, .closeTap t ∈ s.parkedSubjects ↔ (s.tap t).parkedClose = true) ∧
    (.detach ∈ s.parkedSubjects ↔ s.trunk.parkedDetach = true) ∧ (.stop ∈ s.parkedSubjects ↔ s.stop.isSome = true) ∧
    s.line.replies.length + s.engine.parked.length ≤ 16 ∧
    ∀ x ∈ s.engine.overtaken, x.code = 0x04#8 ∧ (s.engine.inbox.head?.bind fun r => requestOf r.body) = some .reset

/-- The session: with it CLOSED the reply cache is empty, W is 0 and only HELLOs wait; with it OPEN the epoch is 1 to 255; no
two cached entries have the same s (R146, R149, R150, R156). -/
abbrev State.SessionLawful (s : State) : Prop :=
  (s.engine.session = .closed →
    s.engine.cache = [] ∧ s.delivery.window = 0 ∧ ∀ r ∈ s.engine.inbox, r.isHello = true) ∧
    (s.engine.session = .opened → s.engine.epoch ≠ 0) ∧ (s.engine.cache.map CacheEntry.seq).Nodup

/-- The stop record is present exactly in STOPPING and has something left to report; a tap not in it is OFF, a trunk port not
in it is DETACHED; a port not DETACHED has a detach pending (R182, R186, R187). -/
abbrev State.StopLawful (s : State) : Prop :=
  (s.part = .stopping ↔ s.stop.isSome = true) ∧
    ∀ r ∈ s.stop, r.isEmpty = false ∧
      (∀ t : TapNo, (s.tap t).state = if t ∈ r.taps then .closing else .off) ∧
      (r.trunk = true → s.trunk.detachPending = true) ∧ (r.trunk = false → s.trunk.state = .detached)

/-- In BOOTING and CONFIG every tap is OFF, the trunk port is DETACHED, the relay queue is empty and no host entry is PENDING
or IN_FLIGHT (R182). -/
abbrev State.ConfigQuiet (s : State) : Prop :=
  s.part = .booting ∨ s.part = .config →
    (∀ t : TapNo, (s.tap t).state = .off) ∧ s.trunk.state = .detached ∧ s.relay.queue = [] ∧
      ∀ e : EntryNo, (s.entry e).holdsSlot = false

/-- The hunter: nothing kept in HUNT; the SYNC alone in LENGTH; in COLLECT and CHECK the SYNC, the LEN and as many bytes as
LEN and the count of bytes to collect say; so never more than 254 bytes with the one to come (R133, R135). -/
abbrev Hunter.Lawful (h : Hunter) : Prop :=
  (h.phase = .hunt → h.kept = []) ∧ (h.phase = .length → h.kept.length = 1) ∧
    (h.phase = .collect →
      1 ≤ h.toCollect ∧ 4 ≤ h.kept.length + h.toCollect ∧ h.kept.length + h.toCollect ≤ 252) ∧
    (h.phase = .check → h.kept.length ≤ 252 + h.checkHigh.isSome.toNat) ∧
    (h.phase ≠ .check → h.checkHigh = none)

/-! ## The whole law -/

/-- Every law of a state of the part. -/
structure State.Lawful (s : State) : Prop where
  tables : s.TablesLawful
  settings : s.SettingsInRange
  queues : s.QueuesBounded
  events : s.EventNumbersConsecutive
  store : s.StoreConsistent
  head : s.HeadExact
  entries : s.EntriesLawful
  flight : s.FlightExact
  health : s.HealthJudged
  trunk : s.TrunkLawful
  taps : s.TapsLawful
  delivery : s.DeliveryLawful
  replies : s.RepliesBounded
  session : s.SessionLawful
  stopping : s.StopLawful
  config : s.ConfigQuiet
  hunter : s.line.hunter.Lawful

/-! ## What the statements are written in -/

/-- The request engine executes `r` now, and `rest` are the requests behind it (R142, R143, R153, R190). -/
abbrev State.Ready (s : State) (r : Request) (rest : List Request) : Prop :=
  s.part ≠ .booting ∧ s.engine.resetPending = false ∧ s.line.replies.length + s.engine.parked.length < 16 ∧
    s.engine.inbox = r :: rest

/-- `s` after an execution of `r` that ended with this reply: the request has left the inbox, the reply stands last in the
reply queue, and in an OPEN session it is in the reply cache (R154, R156, R157). -/
def State.replied (s : State) (r : Request) (rest : List Request) (status : Status) (detail : Byte)
    (result : List Byte) : State :=
  let reply : Reply := ⟨r.seq, r.body.headD 0, status, detail, result⟩
  { s with
    line := { s.line with replies := s.line.replies ++ [reply] }
    engine := { s.engine with
      inbox := rest
      cache :=
        if s.engine.session = .opened then insertCache s.engine.cache ⟨r.seq, r.check, reply⟩ else s.engine.cache } }

/-- `s` after an execution of `r` that parked it: the request has left the inbox and its record stands in the parked set with
the epoch (R155). -/
def State.parkedNow (s : State) (r : Request) (rest : List Request) (subject : ParkedSubject) : State :=
  { s with engine := { s.engine with
      inbox := rest, parked := s.engine.parked ++ [⟨subject, r.seq, r.check, s.engine.epoch⟩] } }

/-- The frame in progress, if it was granted a slot, stands in a FILLING slot of the ingress. -/
abbrev State.FillingFor (s : State) (i : IngressNo) (p : InProgress) : Prop :=
  ∀ n, p.slotNo = some n → s.store.slot n = .filling i

/-- The relay head is a candidate (R90). -/
abbrev State.HeadIsCandidate (s : State) : Prop :=
  s.relay.queue ≠ [] ∧ s.relay.gate = .opened ∧ s.relay.headRecord.flushPending = false ∧
    (s.trunk.state = .active ∨ s.trunk.state = .degraded ∧ s.relay.inDegraded = true)

/-- The relay head is forced (R92, step 1). -/
abbrev State.HeadForced (s : State) : Prop :=
  s.HeadIsCandidate ∧ 0 < s.relay.yieldLimit ∧ s.relay.yieldLimit ≤ s.relay.headRecord.passOvers

/-- The tag out of the relay head's slot (R92). -/
def State.headTag (s : State) : Tag := ((s.relay.queue.head?.map s.store.record).getD .blank).tagOut

/-- The commands given, executed one after another; the first that does not answer a next state ends the run. -/
def State.runAll (s : State) : List Instr → Host.Outcome State Fault Refusal
  | [] => .next s
  | c :: cs =>
    match exec c s with
    | .next t => t.runAll cs
    | .fault f => .fault f
    | .refused r => .refused r

end Sys2Proof.Machine
end

