-- ==== Sys2Proof/Certificates/Slice0/Obligations.lean ====
section
/-! DEFINITION. The statements for the provers. A statement about a command gives the state `exec` answers, whole, so it is
the command's result, its frame and its completion at once. -/

open Sys2Proof Sys2Proof.Machine

/-! ## The queue of commands, the stops, reset -/

/-- A step executes the command at the front of the queue, with the queue's rest. -/
def Obligations.StepRunsFrontCommand : Prop :=
  ∀ (c : Instr) (rest : List Instr) (s : State), s.pending = c :: rest →
    step s = exec c { s with pending := rest } ∧ Sys2Proof.core.step s = step s

/-- On an empty queue one microsecond passes on the stamp counter, which wraps from FFFFFFFFh to 0, and nothing else changes
(R13). That the empty queue is what lets time pass is the model's choice (log entry 2). -/
def Obligations.EmptyQueueCountsMicrosecond : Prop :=
  ∀ s : State, s.pending = [] →
    ∃ t, step s = .next t ∧ t = { s with stamp := t.stamp } ∧
      t.stamp.toNat = (if s.stamp.toNat = 4294967295 then 0 else s.stamp.toNat + 1)

/-- No command touches the commands that wait behind it. -/
def Obligations.CommandsWaitUntouched : Prop :=
  ∀ (c : Instr) (s t : State), exec c s = .next t → t.pending = s.pending

/-- No command is refused; the one fault there is comes from a SEND for a FREE entry in RUN that finds the free list empty; and
in a state that keeps the laws no command stops at all, since a SEND for a FREE entry then always finds a slot (R19, R27). No rule
gives a SEND a stop: that it faults on an empty free list, which R19 excludes, is the model's own (log entry 13, DEDUCED), and that a
command whose conditions do not hold answers a next state and is not refused is its choice (log entry 3). -/
def Obligations.OnlySendCouldStop : Prop :=
  ∀ (c : Instr) (s : State),
    (∀ r, exec c s ≠ .refused r) ∧
      (∀ f, exec c s = .fault f →
        c = .send ∧ s.part = .run ∧ s.store.freeList = [] ∧ ∃ e : EntryNo, (s.entry e).state = .free) ∧
      (s.Lawful → ∃ t, exec c s = .next t)

/-- The state after reset keeps every law. -/
def Obligations.ResetStateIsLawful : Prop := State.reset.Lawful

/-! ## What every step keeps -/

/-- Every law is kept by every step, whatever command it runs. -/
def Obligations.StepKeepsEveryLaw : Prop :=
  ∀ s t : State, s.Lawful → step s = .next t → t.Lawful

/-- The law of match, mask, rewrite and targets holds in both tables of every ingress after every step (R58). -/
def Obligations.StepKeepsTablesLawful : Prop :=
  ∀ s t : State, s.TablesLawful → step s = .next t → t.TablesLawful

/-- Quotas stay in 1 to 88, L in 0 to 15 and W in 0 to 16; the relay queue stays within 64 entries, the delivery queue within
32, the event queue within 16, the inbox within 4 and the reply cache within 8. -/
def Obligations.StepKeepsRangesAndCapacities : Prop :=
  ∀ s t : State, s.SettingsInRange → s.QueuesBounded → step s = .next t → t.SettingsInRange ∧ t.QueuesBounded

/-- The records of the event queue always carry consecutive event numbers (R174). -/
def Obligations.StepKeepsEventNumbersConsecutive : Prop :=
  ∀ s t : State, s.EventNumbersConsecutive → step s = .next t → t.EventNumbersConsecutive

/-- The trunk port's state always fits its health history (R120, R121). -/
def Obligations.StepKeepsHealthJudged : Prop :=
  ∀ s t : State, s.HealthJudged → step s = .next t → t.HealthJudged

/-- The delivery queue keeps SENT entries in front, at most one SENDING entry, marks only on it, and at most 16 outstanding
captures (R164, R166). -/
def Obligations.StepKeepsDeliveryLawful : Prop :=
  ∀ s t : State, s.SettingsInRange → s.DeliveryLawful → step s = .next t → t.DeliveryLawful

/-- With the session CLOSED the cache is empty, W is 0 and only HELLOs wait; with it OPEN the epoch is 1 to 255; no two cached
entries have the same sequence number (R146, R156). -/
def Obligations.StepKeepsSessionLawful : Prop :=
  ∀ s t : State, s.SessionLawful → step s = .next t → t.SessionLawful

/-! ## Resets and the memory check -/

/-- POWER_RESET, wherever the part stands: every block at its power-on values, the straps sampled, BOOTING (R32, R52, R80,
R107, R129, R142, R163, R181, R183). Model's choices, which no rule gives: the trunk port's bits sent empty, attempt stamp 0 and
acknowledge not driven (log entry 16), the hunter's count of bytes to collect 0 in HUNT (log entry 7), a tap's count of recessive
bit times 0 in OFF (log entry 8), the straps as operands (log entry 19), no reply overtaken (log entry 30). -/
def Obligations.PowerResetGivesPowerOnValues : Prop :=
  ∀ (br1 br0 : Bool) (s : State), ∃ t, exec (.powerReset br1 br0) s = .next t ∧
    t.part = .booting ∧ t.stop = none ∧ t.stamp = 0 ∧
    t.store.freeList = List.finRange 96 ∧ (∀ n : SlotNo, t.store.slot n = .free) ∧
    (∀ i : IngressNo, t.store.use.get i = 0 ∧ t.store.quota.get i = 16 ∧
      (t.ingress i).rate = .kbit500 ∧ (t.ingress i).stampPoint = .sof ∧ (t.ingress i).nextSeq = 0 ∧
      (t.ingress i).counters = ⟨0, 0, 0, 0, 0, 0, 0, 0⟩ ∧ (t.ingress i).dropsLatch = false ∧
      (t.ingress i).generation = 0 ∧ (t.ingress i).staged = (t.ingress i).active ∧
      (t.ingress i).active.default = .drop ∧
      ∀ k : WindowNo, (t.ingress i).active.windows.get k = ⟨false, 0, 0, .any, 0, .drop, none⟩) ∧
    (∀ k : TapNo, t.tap k = ⟨.off, false, 0, none, false⟩) ∧
    t.trunk = ⟨.detached, false, false, none, [], 0, [], 0, false, none, false⟩ ∧
    t.relay = ⟨[], none, .opened, 8, 3, false⟩ ∧
    (∀ e : EntryNo, t.entry e = ⟨.free, none, 0, false, none⟩) ∧
    t.delivery = ⟨[], 0, 0⟩ ∧ t.events = ⟨[], 0, 0⟩ ∧ t.txDone = [] ∧
    t.line = ⟨if br1 then (if br0 then .bit2000000 else .bit921600) else if br0 then .bit460800 else .bit115200,
      ⟨.hunt, [], 0, none⟩, 0, [], none⟩ ∧
    t.engine = ⟨.closed, 0, [], [], [], false, none⟩

/-- MEMORY_CHECK_COMPLETED in BOOTING: a correct pass enters CONFIG and stores PART_STATE CONFIG with the present stamp; a
wrong pass changes nothing (R184). That the result of the pass is an operand (log entry 22) and that the command changes nothing in
any other part state (log entry 3) are the model's choices. -/
def Obligations.MemoryCheckEntersConfig : Prop :=
  ∀ (s : State) (correct : Bool),
    exec (.memoryCheckCompleted correct) s = .next
      (if s.part = .booting ∧ correct = true then
        { s with part := .config, events := s.events.push (.partState .config) s.stamp }
      else s)

/-- REPLY_COMPLETED for a RESET reply: the soft reset. Settings, quotas, tables, generations and relay settings are kept, and
everything else takes its reset value (R192, R33, R53, R81, R108, R130, R142, R163, R181). Model's choices, which no rule gives:
the RESET reply is known by code 05h and status OK (log entry 18), the trunk port's bits sent empty, attempt stamp 0 and acknowledge
not driven (log entry 16), the hunter's count of bytes to collect 0 in HUNT (log entry 7), a tap's count of recessive bit times 0 in
OFF (log entry 8), the straps as operands (log entry 19), no reply overtaken (log entry 30). -/
def Obligations.ResetReplyCompletionIsSoftReset : Prop :=
  ∀ (br1 br0 : Bool) (s : State) (r : Reply) (rest : List Reply) (bytes : List Byte),
    s.line.htx = some ⟨.reply, bytes⟩ → s.line.replies = r :: rest → r.code = 0x05#8 → r.status = .ok →
    ∃ t, exec (.replyCompleted br1 br0) s = .next t ∧
      t.part = .booting ∧ t.stop = none ∧ t.stamp = 0 ∧
      t.store.freeList = List.finRange 96 ∧ (∀ n : SlotNo, t.store.slot n = .free) ∧ t.store.quota = s.store.quota ∧
      (∀ i : IngressNo, t.store.use.get i = 0 ∧
        t.ingress i = { s.ingress i with nextSeq := 0, counters := ⟨0, 0, 0, 0, 0, 0, 0, 0⟩, dropsLatch := false }) ∧
      (∀ k : TapNo, t.tap k = ⟨.off, false, 0, none, false⟩) ∧
      t.trunk = ⟨.detached, false, false, none, [], 0, [], 0, false, none, false⟩ ∧
      t.relay = { s.relay with queue := [], head := none, gate := .opened } ∧
      (∀ e : EntryNo, t.entry e = ⟨.free, none, 0, false, none⟩) ∧
      t.delivery = ⟨[], 0, 0⟩ ∧ t.events = ⟨[], 0, 0⟩ ∧ t.txDone = [] ∧
      t.line = ⟨if br1 then (if br0 then .bit2000000 else .bit921600) else if br0 then .bit460800 else .bit115200,
        ⟨.hunt, [], 0, none⟩, 0, [], none⟩ ∧
      t.engine = ⟨.closed, 0, [], [], [], false, none⟩

/-! ## Shared operations -/

/-- Storing an event: appended with the next event number while fewer than 16 records are held; otherwise the lost count goes
up by one, stopping at 65535, and no number is used (R174, R175). A counted loss raises its counter alone and sets the DROPS
latch; with the latch clear a DROPS event with the counter's new value is stored, with it set none is (R25, R77, R178). -/
def Obligations.EventsAndLossesRecorded : Prop :=
  (∀ (q : EventQueue) (info : EventInfo) (stamp : Word32),
    (q.queue.length < 16 →
      q.push info stamp = ⟨q.queue ++ [⟨q.nextNumber, info, stamp⟩], q.nextNumber + 1, q.lost⟩) ∧
    (16 ≤ q.queue.length →
      (q.push info stamp).queue = q.queue ∧ (q.push info stamp).nextNumber = q.nextNumber ∧
        (q.push info stamp).lost.toNat = min 65535 (q.lost.toNat + 1))) ∧
  ∀ (s : State) (i : IngressNo) (reason : DropReason),
    let c := (s.ingress i).counters
    let raised : Counters := match reason with
      | .noSlot => { c with noSlot := c.noSlot + 1 }
      | .overQuota => { c with overQuota := c.overQuota + 1 }
      | .relayFull => { c with relayFull := c.relayFull + 1 }
      | .deliveryFull => { c with deliveryFull := c.deliveryFull + 1 }
    let value : Word32 := match reason with
      | .noSlot => c.noSlot + 1
      | .overQuota => c.overQuota + 1
      | .relayFull => c.relayFull + 1
      | .deliveryFull => c.deliveryFull + 1
    s.countDrop i reason =
      { s with
        ingresses := s.ingresses.set i { s.ingress i with counters := raised, dropsLatch := true }
        events :=
          if (s.ingress i).dropsLatch = true then s.events else s.events.push (.drops i reason value) s.stamp }

/-- A holder leaves a HELD slot: with another holder left the slot stays HELD with its record; otherwise it becomes FREE, joins
the back of the free list, and the use of its ingress falls (R28, R17, R18). -/
def Obligations.LastHolderReleasesSlot : Prop :=
  ∀ (st : Store) (h : Holder) (n : SlotNo) (source : Source) (record : SlotRecord) (holders : Holders),
    st.slot n = .held source record holders →
    let left : Holders := match h with
      | .relay => { holders with relay := false }
      | .delivery => { holders with delivery := false }
      | .entry => { holders with entry := false }
    (left ≠ ⟨false, false, false⟩ → st.leave h n = { st with slots := st.slots.set n (.held source record left) }) ∧
    (left = ⟨false, false, false⟩ →
      st.leave h n = { st with
        slots := st.slots.set n .free
        freeList := st.freeList ++ [n]
        use := match source with
          | .ingress i => st.use.set i (st.use.get i - 1)
          | .host => st.use })

/-- The first window in index order that hits places the frame, with its targets, its index and the tag bits under its mask
replaced by its rewrite; without a hit the default action places it with index 8 and its tag unchanged (R59, R60, R61). -/
def Obligations.FirstHitPlacesFrame : Prop :=
  ∀ (table : Table) (f : Frame),
    let hits (w : Window) : Prop :=
      w.enabled = true ∧ f.tag &&& w.mask = w.matchTag ∧ (w.kinds = .any ∨ w.kinds.code = f.kind.code) ∧
        f.length ≤ w.longest
    (∀ k : WindowNo, hits (table.windows.get k) → (∀ j : WindowNo, j < k → ¬ hits (table.windows.get j)) →
      (table.place f).target = (table.windows.get k).targets ∧ (table.place f).windowIndex = k.val ∧
      ((table.windows.get k).rewrite = none → (table.place f).tagOut = f.tag) ∧
      ∀ rewrite, (table.windows.get k).rewrite = some rewrite →
        ∀ b : Nat, b < 24 → (table.place f).tagOut.getLsbD b =
          (rewrite.getLsbD b || (f.tag.getLsbD b && !(table.windows.get k).mask.getLsbD b))) ∧
    ((∀ k : WindowNo, ¬ hits (table.windows.get k)) → table.place f = ⟨table.default, f.tag, 8⟩)

/-- Classification of a stored frame: the record takes tag out, generation and window index; the offers of R72 to R76 are made
in order; the slot becomes HELD with the holders the offers added, or FREE with none. The nine rows of R76. -/
def Obligations.ClassificationResults : Prop :=
  ∀ (s : State) (i : IngressNo) (n : SlotNo) (f : Frame) (record : SlotRecord), s.store.slot n = .filling i →
    let p := (s.ingress i).active.place f
    let whole : SlotRecord :=
      { record with tagOut := p.tagOut, classified := some ⟨(s.ingress i).generation, p.windowIndex⟩ }
    let relayRoom := s.relay.queue.length < 64
    let hostRoom := s.delivery.queue.length < 32
    let relayed : Relay := { s.relay with
      queue := s.relay.queue ++ [n], head := if s.relay.queue = [] then some ⟨0, 0, false⟩ else s.relay.head }
    let captured : Delivery := { s.delivery with
      queue := s.delivery.queue ++ [⟨n, s.delivery.nextNumber, .waiting, .none⟩]
      nextNumber := s.delivery.nextNumber + 1 }
    let heldBy (h : Holders) : Store := { s.store with slots := s.store.slots.set n (.held (.ingress i) whole h) }
    let freed : Store := { s.store with
      slots := s.store.slots.set n .free
      freeList := s.store.freeList ++ [n]
      use := s.store.use.set i (s.store.use.get i - 1) }
    let lostRelay := s.countDrop i .relayFull
    let lostHost := s.countDrop i .deliveryFull
    (p.target = .drop → s.classify i n f record = { s.countWindowDrop i with store := freed }) ∧
    (p.target = .relay → relayRoom →
      s.classify i n f record = { s with relay := relayed, store := heldBy ⟨true, false, false⟩ }) ∧
    (p.target = .relay → ¬ relayRoom → s.classify i n f record = { lostRelay with store := freed }) ∧
    (p.target = .host → hostRoom →
      s.classify i n f record = { s with delivery := captured, store := heldBy ⟨false, true, false⟩ }) ∧
    (p.target = .host → ¬ hostRoom → s.classify i n f record = { lostHost with store := freed }) ∧
    (p.target = .both → relayRoom → hostRoom →
      s.classify i n f record =
        { s with relay := relayed, delivery := captured, store := heldBy ⟨true, true, false⟩ }) ∧
    (p.target = .both → relayRoom → ¬ hostRoom →
      s.classify i n f record = { lostHost with relay := relayed, store := heldBy ⟨true, false, false⟩ }) ∧
    (p.target = .both → ¬ relayRoom → hostRoom →
      s.classify i n f record = { lostRelay with delivery := captured, store := heldBy ⟨false, true, false⟩ }) ∧
    (p.target = .both → ¬ relayRoom → ¬ hostRoom →
      s.classify i n f record = { lostRelay.countDrop i .deliveryFull with store := freed })

/-- The end of a frame at ingress `i`: a valid frame takes the next sequence number and raises VALID, then is classified with
its completed record if stored, or counted under its refusal reason; an invalid one raises its invalid counter and its slot, if
any, is freed (R12, R13, R23, R24, R25, R42, R43, R115, R116). -/
def Obligations.EndOfFrameHandled : Prop :=
  ∀ (s : State) (i : IngressNo) (p : InProgress), s.FillingFor i p →
    let g := s.ingress i
    let withCounters (c : Counters) : State := { s with ingresses := s.ingresses.set i { g with counters := c } }
    let numberedIngress : Ingress :=
      { g with nextSeq := g.nextSeq + 1, counters := { g.counters with valid := g.counters.valid + 1 } }
    let numbered : State := { s with ingresses := s.ingresses.set i numberedIngress }
    let freed : Store := match p with
      | .stored n _ => { s.store with
          slots := s.store.slots.set n .free
          freeList := s.store.freeList ++ [n]
          use := s.store.use.set i (s.store.use.get i - 1) }
      | .unstored _ => s.store
    (∀ f : Frame, s.endFrame i p (.valid f) =
      match p with
      | .stored n sofStamp => numbered.classify i n f
          { seq := some g.nextSeq, tagReceived := f.tag, tagOut := f.tag, kind := f.kind, length := f.length
            payload := f.payload, stamp := if g.stampPoint = .sof then sofStamp else s.stamp, classified := none }
      | .unstored .overQuota => numbered.countDrop i .overQuota
      | .unstored .noSlot => numbered.countDrop i .noSlot) ∧
    s.endFrame i p .invalidCheck =
      { (withCounters { g.counters with invalidCheck := g.counters.invalidCheck + 1 }) with store := freed } ∧
    ∀ found : FormatFault, s.endFrame i p (.invalidFormat found) =
      { (withCounters { g.counters with invalidFormat := g.counters.invalidFormat + 1 }) with store := freed }

/-- An entry becomes DONE: outcome set, a TX_DONE record with its attempts and its slot's tag and stamp appended, its slot
released to the back of the free list, cancel-requested and slot cleared (R88). -/
def Obligations.EntryDoneReportsAndReleases : Prop :=
  ∀ (s : State) (e : EntryNo) (outcome : EntryOutcome) (n : SlotNo) (record : SlotRecord),
    (s.entry e).slot = some n → s.store.slot n = .held .host record ⟨false, false, true⟩ →
    s.entryDone e outcome =
      { s with
        txDone := s.txDone ++ [⟨e, outcome, (s.entry e).attempts, record.tagOut, record.stamp⟩]
        store := { s.store with slots := s.store.slots.set n .free, freeList := s.store.freeList ++ [n] }
        entries := s.entries.set e ⟨.done, none, (s.entry e).attempts, false, some outcome⟩ }

/-- An unsent relay head leaves: a RELAY_ABANDON event with the fields of its slot and its attempts is stored, it leaves the
front of the queue, holder RELAY leaves its slot, and the next entry becomes head with a new head record (R83, R98, R102). -/
def Obligations.HeadAbandonedWithEvent : Prop :=
  ∀ (s : State) (reason : AbandonReason) (n : SlotNo) (rest : List SlotNo) (h : HeadRecord) (i : IngressNo)
    (seq : Word16) (record : SlotRecord) (holders : Holders),
    s.relay.queue = n :: rest → s.relay.head = some h → s.store.slot n = .held (.ingress i) record holders →
    record.seq = some seq →
    s.abandonHead reason =
      { s with
        events := s.events.push (.relayAbandon reason (.ingress i) seq record.tagOut h.attempts) s.stamp
        relay := { s.relay with queue := rest, head := if rest = [] then none else some ⟨0, 0, false⟩ }
        store := s.store.leave .relay n }

/-- A parked request completes: its record leaves the parked set and its OK is queued with its own SEQ and code, cached only in
an OPEN session with the epoch at which it was parked (R155, R157). -/
def Obligations.ParkedRequestAnswered : Prop :=
  ∀ (s : State) (before behind : List Parked) (p : Parked) (result : List Byte),
    s.engine.parked = before ++ p :: behind → (∀ q ∈ before ++ behind, q.subject ≠ p.subject) →
    let code : Byte := match p.subject with
      | .closeTap _ => 0x12#8
      | .detach => 0x42#8
      | .stop => 0x04#8
    let reply : Reply := ⟨p.seq, code, .ok, 0, result⟩
    s.answerParked p.subject result =
      { s with
        line := { s.line with replies := s.line.replies ++ [reply] }
        engine := { s.engine with
          parked := before ++ behind
          cache :=
            if s.engine.session = .opened ∧ p.epoch = s.engine.epoch then
              insertCache s.engine.cache ⟨p.seq, p.check, reply⟩
            else s.engine.cache } }

/-- Inserting in the reply cache: an entry with the same s leaves, else the oldest of eight leaves; the new entry stands last,
and the cache keeps at most eight entries with distinct s (R156). -/
def Obligations.ReplyCacheInsertion : Prop :=
  ∀ (cache : List CacheEntry) (e : CacheEntry), cache.length ≤ 8 → (cache.map CacheEntry.seq).Nodup →
    (insertCache cache e).length ≤ 8 ∧ ((insertCache cache e).map CacheEntry.seq).Nodup ∧
    (∀ before old behind, cache = before ++ old :: behind → old.seq = e.seq →
      insertCache cache e = before ++ behind ++ [e]) ∧
    ((∀ c ∈ cache, c.seq ≠ e.seq) → cache.length < 8 → insertCache cache e = cache ++ [e]) ∧
    ∀ oldest rest, cache = oldest :: rest → (∀ c ∈ cache, c.seq ≠ e.seq) → cache.length = 8 →
      insertCache cache e = rest ++ [e]

/-- During STOP a report strikes its tap or the trunk port from the stop record; the report that leaves nothing completes STOP;
without a stop record a report does nothing (R187, R188). If the oldest request is then a RESET that the engine can execute, the engine
keeps the STOP reply, the last one queued, as overtaken, for R194. That this is the same moment of R194, and the field that keeps the
reply, are the model's choices (log entry 30). -/
def Obligations.ReportsCompleteStop : Prop :=
  ∀ (s : State) (t : TapNo),
    let done := s.completeStop
    let resetWaits : Prop := ∃ r rest, done.Ready r rest ∧ r.body = [0x05#8]
    let kept : State := { done with engine := { done.engine with overtaken := done.line.replies.getLast? } }
    (s.stop = none → s.reportTap t = s ∧ s.reportTrunk = s) ∧
    ∀ record : StopRecord, s.stop = some record →
      (record.trunk = true ∨ (∃ k ∈ record.taps, k ≠ t) →
        s.reportTap t = { s with stop := some ⟨record.taps.filter (· ≠ t), record.trunk⟩ }) ∧
      (record.trunk = false → (∀ k ∈ record.taps, k = t) →
        (¬ resetWaits → s.reportTap t = done) ∧ (resetWaits → s.reportTap t = kept)) ∧
      (record.taps ≠ [] → s.reportTrunk = { s with stop := some ⟨record.taps, false⟩ }) ∧
      (record.taps = [] → (¬ resetWaits → s.reportTrunk = done) ∧ (resetWaits → s.reportTrunk = kept))

/-- STOP completes: the relay queue is cleared, one RELAY_ABANDON STOPPED event with the count is stored, every PENDING entry
becomes DONE with outcome STOPPED in ascending order, the gate opens, the part enters CONFIG with its event, and the parked STOP
is answered with both counts (R188). -/
def Obligations.StopCompletionSteps : Prop :=
  ∀ s : State, s.StoreConsistent → (∀ e : EntryNo, (s.entry e).Lawful) →
    let stopped : List EntryNo := (List.finRange 8).filter fun e => (s.entry e).state = .pending
    let removed := s.relay.queue.length
    s.completeStop =
      State.answerParked
        { s with
          part := .config
          stop := none
          relay := { s.relay with queue := [], head := none, gate := .opened }
          store := (s.store.leaveAll .relay s.relay.queue).leaveAll .entry
            (stopped.filterMap fun e => (s.entry e).slot)
          entries := Vector.ofFn fun e =>
            if (s.entry e).state = .pending then
              ⟨.done, none, (s.entry e).attempts, false, some .stopped⟩
            else s.entry e
          txDone := s.txDone ++ stopped.map fun e =>
            let record := ((s.entry e).slot.map s.store.record).getD .blank
            ⟨e, .stopped, (s.entry e).attempts, record.tagOut, record.stamp⟩
          events := (s.events.push (.relayStopped removed) s.stamp).push (.partState .config) s.stamp }
        .stop [BitVec.ofNat 8 removed, BitVec.ofNat 8 stopped.length]

/-! ## The tap receivers -/

/-- TAP_START_OF_FRAME at a synchronised tap in LISTEN: refused OVER_QUOTA if the quota test fails, else NO_SLOT if the free
count is not above the reserve need, else the front free slot becomes FILLING; the frame is in progress, synchronised becomes no
(R20, R21, R40). -/
def Obligations.TapStartOfFrameDecision : Prop :=
  ∀ (s : State) (t : TapNo), (s.tap t).state = .listen → (s.tap t).synchronised = true →
    (s.tap t).inProgress = none →
    let i : IngressNo := t.castSucc
    let following (p : InProgress) : Vector Tap 6 := s.taps.set t ⟨.listen, false, 0, some p, (s.tap t).parkedClose⟩
    let need : Nat := 8 - (List.finRange 8).countP fun e =>
      (s.entry e).state = .pending ∨ (s.entry e).state = .inFlight
    (s.store.quota.get i ≤ s.store.use.get i →
      exec (.tapStartOfFrame t) s = .next { s with taps := following (.unstored .overQuota) }) ∧
    (s.store.use.get i < s.store.quota.get i → s.store.freeList.length ≤ need →
      exec (.tapStartOfFrame t) s = .next { s with taps := following (.unstored .noSlot) }) ∧
    ∀ n rest, s.store.use.get i < s.store.quota.get i → need < s.store.freeList.length →
      s.store.freeList = n :: rest →
      exec (.tapStartOfFrame t) s = .next
        { s with
          taps := following (.stored n s.stamp)
          store := { s.store with
            slots := s.store.slots.set n (.filling i)
            freeList := rest
            use := s.store.use.set i (s.store.use.get i + 1) } }

/-- TAP_END_OF_FRAME. In LISTEN a valid frame is handled and the tap stays; an invalid one is handled and the tap goes to SYNC
with the reason, its TAP_STATE event after any other (R42, R43). In CLOSING the frame is handled, the tap becomes OFF with its
event, a parked CLOSE_TAP is answered with the tap and its next sequence number, and the arrival is reported last (R46, R48,
R189). That the count of recessive bit times is 0 in OFF is the model's choice (log entry 8). -/
def Obligations.TapEndOfFrameEffects : Prop :=
  ∀ (s : State) (t : TapNo) (p : InProgress) (bits : List Level) (v : Verdict),
    (s.tap t).inProgress = some p → receive bits = some v →
    let i : IngressNo := t.castSucc
    let handled := s.endFrame i p v
    let off : State := { handled with
      taps := s.taps.set t ⟨.off, false, 0, none, false⟩
      events := handled.events.push (.tapState t .off) s.stamp }
    let result : List Byte := BitVec.ofNat 8 t.val :: bytes16 (handled.ingress i).nextSeq
    ((s.tap t).state = .listen → (∃ f, v = .valid f) →
      exec (.tapEndOfFrame t bits) s = .next
        { handled with taps := s.taps.set t { s.tap t with idleCount := 0, inProgress := none } }) ∧
    ((s.tap t).state = .listen → v = .invalidCheck →
      exec (.tapEndOfFrame t bits) s = .next { handled with
        taps := s.taps.set t ⟨.sync, false, 0, none, (s.tap t).parkedClose⟩
        events := handled.events.push (.tapState t .syncCheck) s.stamp }) ∧
    ((s.tap t).state = .listen → (∃ found, v = .invalidFormat found) →
      exec (.tapEndOfFrame t bits) s = .next { handled with
        taps := s.taps.set t ⟨.sync, false, 0, none, (s.tap t).parkedClose⟩
        events := handled.events.push (.tapState t .syncFormat) s.stamp }) ∧
    ((s.tap t).state = .closing → (s.tap t).parkedClose = false →
      exec (.tapEndOfFrame t bits) s = .next (off.reportTap t)) ∧
    ((s.tap t).state = .closing → (s.tap t).parkedClose = true →
      exec (.tapEndOfFrame t bits) s = .next ((off.answerParked (.closeTap t) result).reportTap t))

/-- The idle gaps: a tap in SYNC becomes LISTEN, synchronised, with its event (R39); a tap in LISTEN becomes synchronised again
without one (R41); a port in JOINING becomes ACTIVE, synchronised, with its event (R113); the trunk receiver becomes synchronised
again and the line is at an idle point, after a frame of another node or of the part (R114, R9). That the counts between 0 and 12
are not held is the model's choice (log entry 8). -/
def Obligations.IdleGapsCompleted : Prop :=
  ∀ (s : State) (t : TapNo),
    ((s.tap t).state = .sync →
      exec (.tapIdleGap t) s = .next
        { s with
          taps := s.taps.set t ⟨.listen, true, 12, (s.tap t).inProgress, (s.tap t).parkedClose⟩
          events := s.events.push (.tapState t .listen) s.stamp }) ∧
    ((s.tap t).state = .listen → (s.tap t).synchronised = false → (s.tap t).inProgress = none →
      exec (.tapResynchronised t) s = .next
        { s with taps := s.taps.set t ⟨.listen, true, 12, none, (s.tap t).parkedClose⟩ }) ∧
    (s.trunk.state = .joining → s.trunk.inProgress = none →
      exec .trunkJoinIdleGap s = .next
        { s with
          trunk := { s.trunk with state := .active, synchronised := true, idleCount := 12 }
          events := s.events.push (.trunkState .active 0) s.stamp }) ∧
    (s.trunk.state = .active ∨ s.trunk.state = .degraded ∨ s.trunk.state = .suspended →
      s.trunk.inFlight = none → s.trunk.inProgress = none →
      exec .trunkReceiverResync s = .next { s with trunk := { s.trunk with synchronised := true, idleCount := 12 } })

/-! ## The trunk receiver -/

/-- TRUNK_START_OF_FRAME in a receiving state, synchronised, at an idle point, with no detach pending and nothing on the line: the
slot decision for ingress 6, the frame in progress, synchronised no, the state unchanged and no event (R114, R20, R21). Away from an
idle point, so before a new idle gap has followed a frame on the trunk, the part's own included, there is no start of frame (R3,
R9). -/
def Obligations.TrunkStartOfFrameDecision : Prop :=
  (∀ s : State, s.trunk.idleCount ≠ 12 → exec .trunkStartOfFrame s = .next s) ∧
  ∀ s : State, s.trunk.state = .active ∨ s.trunk.state = .degraded ∨ s.trunk.state = .suspended →
    s.trunk.synchronised = true → s.trunk.idleCount = 12 → s.trunk.detachPending = false → s.trunk.inFlight = none →
    s.trunk.inProgress = none →
    let following (p : InProgress) : Trunk :=
      { s.trunk with inProgress := some p, synchronised := false, idleCount := 0 }
    let need : Nat := 8 - (List.finRange 8).countP fun e =>
      (s.entry e).state = .pending ∨ (s.entry e).state = .inFlight
    (s.store.quota.get 6 ≤ s.store.use.get 6 →
      exec .trunkStartOfFrame s = .next { s with trunk := following (.unstored .overQuota) }) ∧
    (s.store.use.get 6 < s.store.quota.get 6 → s.store.freeList.length ≤ need →
      exec .trunkStartOfFrame s = .next { s with trunk := following (.unstored .noSlot) }) ∧
    ∀ n rest, s.store.use.get 6 < s.store.quota.get 6 → need < s.store.freeList.length →
      s.store.freeList = n :: rest →
      exec .trunkStartOfFrame s = .next
        { s with
          trunk := following (.stored n s.stamp)
          store := { s.store with
            slots := s.store.slots.set n (.filling 6)
            freeList := rest
            use := s.store.use.set 6 (s.store.use.get 6 + 1) } }

/-- TRUNK_END_OF_FRAME: the frame is handled, the frame in progress becomes absent, the state stays; the acknowledge was driven
exactly in ACTIVE and DEGRADED for a frame without a fault up to its check; a detach that is pending over the frame is completed
(R6, R115, R116, R117, R124). The field that keeps whether the acknowledge was driven is the model's own (log entry 16). -/
def Obligations.TrunkEndOfFrameEffects : Prop :=
  ∀ (s : State) (p : InProgress) (bits : List Level) (v : Verdict),
    s.trunk.inProgress = some p → receive bits = some v → s.trunk.inFlight = none →
    let handled := s.endFrame 6 p v
    let good : Bool := match v with
      | .valid _ | .invalidFormat .delimiter => true
      | .invalidCheck | .invalidFormat .level | .invalidFormat .kindCode | .invalidFormat .length => false
    let ended : State := { handled with trunk := { s.trunk with
      inProgress := none, idleCount := 0
      acknowledged := (s.trunk.state = .active || s.trunk.state = .degraded) && good } }
    (s.trunk.detachPending = false → exec (.trunkEndOfFrame bits) s = .next ended) ∧
    (s.trunk.detachPending = true → exec (.trunkEndOfFrame bits) s = .next ended.completeDetach)

/-! ## The trunk arbiter and the outcomes of an attempt -/

/-- TRANSMIT_OPPORTUNITY: without a candidate nothing happens; a forced head, or a head with a tag below every PENDING entry's,
is put in flight; otherwise the PENDING entry of the lowest tag, and among equal tags of the lowest index, with one more pass-over
of a head that was a candidate. The bits of its slot's frame, with its tag out, are what the port sends (R7, R91, R92, R93). Away
from an idle point, so before a new idle gap has followed the part's own frame or another node's, no attempt starts (R9). That an
attempt also needs a synchronised receiver is the model's reading (log entry 11), and what it keeps of the attempt is its choice (log
entry 16). -/
def Obligations.TrunkArbiterChoice : Prop :=
  (∀ s : State, s.trunk.idleCount ≠ 12 → exec .transmitOpportunity s = .next s) ∧
  ∀ s : State, s.trunk.state = .active ∨ s.trunk.state = .degraded → s.trunk.inFlight = none →
    s.trunk.detachPending = false → s.part = .run → s.trunk.idleCount = 12 → s.trunk.synchronised = true →
    s.trunk.inProgress = none →
    let sending (c : Candidate) (n : SlotNo) : Trunk :=
      let record := s.store.record n
      { s.trunk with
        inFlight := some c
        sending := Frame.sentBits ⟨record.tagOut, record.kind, record.length, record.payload⟩
        attemptStamp := s.stamp
        idleCount := 0 }
    let passed (h : HeadRecord) : HeadRecord :=
      { h with passOvers := if h.passOvers = 255 then 255 else h.passOvers + 1 }
    (¬ s.HeadIsCandidate → (∀ e : EntryNo, (s.entry e).state ≠ .pending) → exec .transmitOpportunity s = .next s) ∧
    (∀ n rest, s.relay.queue = n :: rest → s.HeadIsCandidate →
      (s.HeadForced ∨ ∀ e : EntryNo, (s.entry e).state = .pending → s.headTag < s.entryTag e) →
      exec .transmitOpportunity s = .next { s with trunk := sending .relayHead n }) ∧
    ∀ e n, (s.entry e).state = .pending → (s.entry e).slot = some n → ¬ s.HeadForced →
      (s.HeadIsCandidate → s.entryTag e ≤ s.headTag) →
      (∀ e' : EntryNo, (s.entry e').state = .pending →
        s.entryTag e ≤ s.entryTag e' ∧ (s.entryTag e' = s.entryTag e → e ≤ e')) →
      exec .transmitOpportunity s = .next
        { s with
          trunk := sending (.entry e) n
          entries := s.entries.set e { s.entry e with state := .inFlight }
          relay := { s.relay with
            head := if s.HeadIsCandidate then s.relay.head.map passed else s.relay.head } }

/-- The health history keeps the last 16 outcomes, and the state is judged from the number f of faults in it: ACTIVE to DEGRADED
at 4, DEGRADED to SUSPENDED at 12 and to ACTIVE at 1; a change stores TRUNK_STATE with the new state and f (R120, R121, R127). -/
def Obligations.HealthHistoryJudgement : Prop :=
  ∀ (s : State) (m : HealthMark), s.trunk.history.length ≤ 16 →
    let history := (s.trunk.history ++ [m]).drop (s.trunk.history.length - 15)
    let f := history.count .fault
    let judged (state : TrunkState) : Trunk := { s.trunk with history := history, state := state }
    let changed (state : TrunkState) : State :=
      { s with trunk := judged state, events := s.events.push (.trunkState state f) s.stamp }
    (s.trunk.state = .active → 4 ≤ f → s.recordOutcome m = changed .degraded) ∧
    (s.trunk.state = .active → f ≤ 3 → s.recordOutcome m = { s with trunk := judged .active }) ∧
    (s.trunk.state = .degraded → 12 ≤ f → s.recordOutcome m = changed .suspended) ∧
    (s.trunk.state = .degraded → 2 ≤ f → f ≤ 11 → s.recordOutcome m = { s with trunk := judged .degraded }) ∧
    (s.trunk.state = .degraded → f ≤ 1 → s.recordOutcome m = changed .active)

/-- OUTCOME_SENT: the head is removed and holder RELAY leaves its slot, or the entry's attempts go up by one and it becomes DONE
with outcome SENT; then SENT is recorded and judged, and a pending detach is completed (R94, R95, R96, R120, R124); the idle count is
0, so a new idle gap is needed (R9). That the receiver stays synchronised over the part's own attempt is the model's reading (log
entry 15), and that no bits stand without an attempt in flight is its choice (log entry 16). -/
def Obligations.OutcomeSentApplied : Prop :=
  ∀ (s : State) (read : List Level), attemptOutcome s.trunk.sending read = some .sent → s.trunk.inProgress = none →
    let settled (u : State) : State :=
      let recorded :=
        State.recordOutcome { u with trunk := { s.trunk with inFlight := none, sending := [], idleCount := 0 } } .sent
      if s.trunk.detachPending = true then recorded.completeDetach else recorded
    (∀ n rest, s.trunk.inFlight = some .relayHead → s.relay.queue = n :: rest →
      exec (.outcomeSent read) s = .next (settled
        { s with
          relay := { s.relay with queue := rest, head := if rest = [] then none else some ⟨0, 0, false⟩ }
          store := s.store.leave .relay n })) ∧
    ∀ e : EntryNo, s.trunk.inFlight = some (.entry e) →
      let counted : HostEntry := { s.entry e with attempts := (s.entry e).attempts + 1 }
      exec (.outcomeSent read) s = .next
        (settled (State.entryDone { s with entries := s.entries.set e counted } e .sent))

/-- OUTCOME_LOST in ACTIVE or DEGRADED: attempts and history are unchanged; the head stays unless flush-pending, the entry is
PENDING again unless its cancel was requested; with no detach pending the winner is received from here, with the stamp of the
part's own start delimiter, otherwise the detach is completed (R8, R97, R100, R101, R114, R123, R124). That the outcome is applied
before the slot decision is the model's reading (log entry 10); that no bits stand, and that the attempt's stamp is kept, without an
attempt in flight is its choice (log entry 16). -/
def Obligations.OutcomeLostApplied : Prop :=
  ∀ (s : State) (read : List Level), attemptOutcome s.trunk.sending read = some .lost → s.trunk.inProgress = none →
    s.trunk.state = .active ∨ s.trunk.state = .degraded →
    let settled (u : State) : State :=
      let ended : State := { u with trunk := { s.trunk with inFlight := none, sending := [], idleCount := 0 } }
      let decided := ended.allocate 6 s.trunk.attemptStamp
      if s.trunk.detachPending = true then ended.completeDetach
      else
        { decided.1 with trunk :=
          { ended.trunk with inProgress := some decided.2, synchronised := false, idleCount := 0 } }
    (s.trunk.inFlight = some .relayHead → s.relay.headRecord.flushPending = false →
      exec (.outcomeLost read) s = .next (settled s)) ∧
    (s.trunk.inFlight = some .relayHead → s.relay.headRecord.flushPending = true →
      exec (.outcomeLost read) s = .next (settled (s.abandonHead .flushed))) ∧
    ∀ e : EntryNo, s.trunk.inFlight = some (.entry e) →
      ((s.entry e).cancelRequested = false →
        exec (.outcomeLost read) s = .next
          (settled { s with entries := s.entries.set e { s.entry e with state := .pending } })) ∧
      ((s.entry e).cancelRequested = true →
        exec (.outcomeLost read) s = .next (settled (s.entryDone e .cancelled)))

/-- OUTCOME_FAULT: attempts go up by one; then a flush-pending head is abandoned FLUSHED, a head with attempts above L abandoned
RETRIES, an entry with a requested cancel DONE CANCELLED, an entry with attempts above L DONE ABANDONED, and any other candidate
kept; FAULT is recorded and judged, and a pending detach is completed (R94, R98, R99, R100, R101, R120, R124); the idle count is 0, so a
new idle gap is needed (R9). That the receiver stays synchronised over the part's own attempt is the model's reading (log entry 15),
and that no bits stand without an attempt in flight is its choice (log entry 16). -/
def Obligations.OutcomeFaultApplied : Prop :=
  ∀ (s : State) (read : List Level), attemptOutcome s.trunk.sending read = some .fault → s.trunk.inProgress = none →
    let settled (u : State) : State :=
      let recorded :=
        State.recordOutcome { u with trunk := { s.trunk with inFlight := none, sending := [], idleCount := 0 } } .fault
      if s.trunk.detachPending = true then recorded.completeDetach else recorded
    (∀ h : HeadRecord, s.trunk.inFlight = some .relayHead → s.relay.head = some h →
      let raised : State := { s with relay := { s.relay with head := some { h with attempts := h.attempts + 1 } } }
      (h.flushPending = true →
        exec (.outcomeFault read) s = .next (settled (raised.abandonHead .flushed))) ∧
      (h.flushPending = false → s.relay.retryLimit < h.attempts + 1 →
        exec (.outcomeFault read) s = .next (settled (raised.abandonHead .retries))) ∧
      (h.flushPending = false → h.attempts + 1 ≤ s.relay.retryLimit →
        exec (.outcomeFault read) s = .next (settled raised))) ∧
    ∀ e : EntryNo, s.trunk.inFlight = some (.entry e) →
      let counted : HostEntry := { s.entry e with attempts := (s.entry e).attempts + 1 }
      let raised : State := { s with entries := s.entries.set e counted }
      ((s.entry e).cancelRequested = true →
        exec (.outcomeFault read) s = .next (settled (raised.entryDone e .cancelled))) ∧
      ((s.entry e).cancelRequested = false → s.relay.retryLimit < (s.entry e).attempts + 1 →
        exec (.outcomeFault read) s = .next (settled (raised.entryDone e .abandoned))) ∧
      ((s.entry e).cancelRequested = false → (s.entry e).attempts + 1 ≤ s.relay.retryLimit →
        exec (.outcomeFault read) s = .next
          (settled { s with entries := s.entries.set e { counted with state := .pending } }))

/-- A detach is completed: DETACHED, nothing pending, an empty history, TRUNK_STATE DETACHED with f 0, the parked DETACH answered
with the state and the next sequence number of ingress 6, the arrival reported last (R124). -/
def Obligations.DetachCompletionSteps : Prop :=
  ∀ s : State,
    let detached : State := { s with
      trunk := { s.trunk with
        state := .detached, detachPending := false, parkedDetach := false, history := [], idleCount := 0
        synchronised := false }
      events := s.events.push (.trunkState .detached 0) s.stamp }
    (s.trunk.parkedDetach = false → s.completeDetach = detached.reportTrunk) ∧
    (s.trunk.parkedDetach = true →
      s.completeDetach =
        (detached.answerParked .detach (0x00#8 :: bytes16 (s.ingress 6).nextSeq)).reportTrunk)

/-! ## Frames on a segment -/

/-- The line of a valid frame: start delimiter, tag, kind, length, payload and check, most significant bit first, with a level-change
bit of the opposite level exactly after five bits of equal level, then acknowledge and eight recessive bits; it is received valid
and unchanged, and whatever is received valid is a valid frame (R1, R4, R7). And the five faults of R4, each ending the frame exactly
at its bit: six equal levels in the coded region, kind code 00 or 11, a length above 32, a wrong check, a dominant bit in the end
delimiter. A frame ends at most once. -/
def Obligations.FrameReceivedAsSent : Prop :=
  let bitsOf (w n : Nat) : List Bool := (List.range w).map fun k => n.testBit (w - 1 - k)
  let header (tag : Tag) (kind : List Bool) (length : Nat) : List Bool := bitsOf 24 tag.toNat ++ kind ++ bitsOf 6 length
  let fields (f : Frame) : List Bool :=
    header f.tag (if f.kind = .data then [false, true] else [true, false]) f.length ++
      f.payload.flatMap fun b => bitsOf 8 b.toNat
  let check (bits : List Bool) : Word16 :=
    bits.foldl (fun c b => if c.getLsbD 15 != b then (c <<< 1) ^^^ 0x8BB7#16 else c <<< 1) 0#16
  let whole (bits : List Bool) : List Bool := bits ++ bitsOf 16 (check bits).toNat
  let stuffed (bits : List Bool) : List SentBit := insertLevelChanges true 0 ((false :: bits).map fun b => ⟨b, .coded⟩)
  let levels (bits : List SentBit) : List Level := bits.map SentBit.level
  let trailed (trail : List SentBit) : Prop := trail = [] ∨ ∃ b, trail = [b] ∧ b.role = .levelChange
  (∀ bits : List Bool,
    ((stuffed bits).filter fun b => b.role ≠ .levelChange) = ((false :: bits).map fun b => ⟨b, .coded⟩) ∧
    ∀ before b behind, stuffed bits ++ [⟨true, .acknowledge⟩] = before ++ b :: behind →
      (b.role = .levelChange ↔ 5 ≤ before.length ∧ ∃ l, ∀ x ∈ before.drop (before.length - 5), x.level = l) ∧
      (b.role = .levelChange → ∀ x ∈ before.getLast?, b.level = !x.level)) ∧
  (∀ (f : Frame) (acknowledge : Level), f.valid = true →
    f.lineLevels acknowledge = levels (stuffed (whole (fields f))) ++ acknowledge :: List.replicate 8 true ∧
    receive (f.lineLevels acknowledge) = some (.valid f) ∧
    ∀ k : Nat, k < 8 →
      receive (levels (stuffed (whole (fields f))) ++ acknowledge :: (List.replicate k true ++ [false])) =
        some (.invalidFormat .delimiter)) ∧
  (∀ (f : Frame) (wrong : Word16) (body trail : List SentBit), f.valid = true → wrong ≠ check (fields f) →
    stuffed (fields f ++ bitsOf 16 wrong.toNat) = body ++ trail → trailed trail → (∀ x ∈ body.getLast?, x.role = .coded) →
    receive (levels body) = some .invalidCheck) ∧
  (∀ (f : Frame) (any : Word16) (before behind : List SentBit) (b : SentBit), f.valid = true →
    stuffed (fields f ++ bitsOf 16 any.toNat) = before ++ b :: behind → b.role = .levelChange →
    (any = check (fields f) ∨ behind ≠ []) →
    receive (levels before ++ [!b.level]) = some (.invalidFormat .level)) ∧
  (∀ (tag : Tag) (k : Bool) (body trail : List SentBit),
    stuffed (bitsOf 24 tag.toNat ++ [k, k]) = body ++ trail → trailed trail → (∀ x ∈ body.getLast?, x.role = .coded) →
    receive (levels body) = some (.invalidFormat .kindCode)) ∧
  (∀ (tag : Tag) (k : Bool) (length : Nat) (body trail : List SentBit), 32 < length → length < 64 →
    stuffed (header tag [k, !k] length) = body ++ trail → trailed trail → (∀ x ∈ body.getLast?, x.role = .coded) →
    receive (levels body) = some (.invalidFormat .length)) ∧
  (∀ (levels more : List Level) (v : Verdict), receive levels = some v → more ≠ [] → receive (levels ++ more) = none) ∧
  ∀ (levels : List Level) (f : Frame), receive levels = some (.valid f) → f.valid = true

/-- The outcome of an attempt: with every bit read back as sent, SENT if the acknowledge reads dominant and FAULT if it reads
recessive; at the first other difference, LOST if a recessive bit of tag or kind reads dominant, FAULT otherwise, delivered at
that bit (R8, R9). -/
def Obligations.AttemptOutcomeFromReadBack : Prop :=
  ∀ f : Frame,
    attemptOutcome f.sentBits (f.lineLevels false) = some .sent ∧
    attemptOutcome f.sentBits (f.lineLevels true) = some .fault ∧
    ∀ (before behind : List SentBit) (b : SentBit) (acknowledge : Level),
      f.sentBits = before ++ b :: behind → b.role ≠ .acknowledge →
      attemptOutcome f.sentBits
          ((before.map fun c => if c.role = .acknowledge then acknowledge else c.level) ++ [!b.level]) =
        some (if b.role = .arbitration ∧ b.level = true then .lost else .fault)

/-! ## The host line, inward -/

/-- BYTE_RECEIVED, BAD_LENGTH, FRAMING_ERROR and GAP_EXPIRY: what each state of the hunter makes of a byte, and the discards,
each counted once in the link error count, which stops at 65535 (R132, R135, R137, R140). That the count of bytes to collect is 0 in
HUNT and LENGTH (log entry 7), and that BYTE_RECEIVED carries out a bad LEN as BAD_LENGTH does (log entry 14), are the model's
choices. -/
def Obligations.HunterTakesBytes : Prop :=
  ∀ (s : State) (b : Byte), s.part ≠ .booting →
    let h := s.line.hunter
    let now (h' : Hunter) : State := { s with line := { s.line with hunter := h' } }
    let errors : Word16 := if s.line.linkErrors = 65535 then 65535 else s.line.linkErrors + 1
    let discarded : State := { s with line := { s.line with hunter := ⟨.hunt, [], 0, none⟩, linkErrors := errors } }
    (h.phase = .hunt → b = 0xA5#8 → exec (.byteReceived b) s = .next (now ⟨.length, [b], 0, none⟩)) ∧
    (h.phase = .hunt → b ≠ 0xA5#8 → exec (.byteReceived b) s = .next s) ∧
    (h.phase = .length → 2 ≤ b.toNat → b.toNat ≤ 250 →
      exec (.byteReceived b) s = .next (now ⟨.collect, h.kept ++ [b], b.toNat, none⟩)) ∧
    (h.phase = .length → b.toNat < 2 ∨ 250 < b.toNat →
      exec (.byteReceived b) s = .next discarded ∧ exec (.badLength b) s = .next discarded) ∧
    (h.phase = .collect → 2 ≤ h.toCollect →
      exec (.byteReceived b) s = .next (now ⟨.collect, h.kept ++ [b], h.toCollect - 1, none⟩)) ∧
    (h.phase = .collect → h.toCollect = 1 →
      exec (.byteReceived b) s = .next (now ⟨.check, h.kept ++ [b], 0, none⟩)) ∧
    (h.phase = .check → h.checkHigh = none →
      exec (.byteReceived b) s = .next (now ⟨.check, h.kept ++ [b], h.toCollect, some b⟩)) ∧
    (h.phase ≠ .hunt → exec .framingError s = .next discarded ∧ exec .gapExpiry s = .next discarded) ∧
    (h.phase = .hunt → exec .framingError s = .next s ∧ exec .gapExpiry s = .next s)

/-- MESSAGE_RECEIVED, the second CHECK byte: a REQUEST with a correct check arrives at the request engine; a wrong type is
discarded and counted; after a wrong check the message is discarded and counted, and the kept bytes behind its SYNC are examined
as if they arrived anew (R136, R138). That BYTE_RECEIVED does the same with that byte (log entry 14), and that the count of bytes to
collect is 0 in HUNT (log entry 7), are the model's choices. -/
def Obligations.MessageJudgedAtLastByte : Prop :=
  ∀ (s : State) (len type seq high low : Byte) (body : List Byte) (left : Nat), s.part ≠ .booting → body.length ≤ 248 →
    s.line.hunter = ⟨.check, 0xA5#8 :: len :: type :: seq :: (body ++ [high]), left, some high⟩ →
    let check := messageCheck (len :: type :: seq :: body)
    let errors : Word16 := if s.line.linkErrors = 65535 then 65535 else s.line.linkErrors + 1
    let hunting : State := { s with line := { s.line with hunter := ⟨.hunt, [], 0, none⟩ } }
    let discarded : State := { s with line := { s.line with hunter := ⟨.hunt, [], 0, none⟩, linkErrors := errors } }
    exec (.byteReceived low) s = exec (.messageReceived low) s ∧
    (check = word16Of high low → type = 0x01#8 →
      exec (.messageReceived low) s = .next (hunting.arrive ⟨seq, check, body⟩)) ∧
    (check = word16Of high low → type ≠ 0x01#8 → exec (.messageReceived low) s = .next discarded) ∧
    (check ≠ word16Of high low →
      ∃ t, exec (.messageReceived low) s = .next t ∧
        discarded.runAll ((len :: type :: seq :: (body ++ [high, low])).map .byteReceived) = .next t)

/-- A whole REQUEST, sent byte by byte to a hunter in HUNT, arrives once at the request engine with its SEQ, its check value and
its body, and leaves nothing else behind (R133, R134, R135, R136). That the second CHECK byte may come as BYTE_RECEIVED (log entry
14), and that the count of bytes to collect is 0 in HUNT (log entry 7), are the model's choices. -/
def Obligations.WholeRequestArrives : Prop :=
  ∀ (s : State) (seq : Byte) (body : List Byte), s.part ≠ .booting → body.length ≤ 248 →
    s.line.hunter = ⟨.hunt, [], 0, none⟩ →
    let covered : List Byte := BitVec.ofNat 8 (body.length + 2) :: 0x01#8 :: seq :: body
    let check := messageCheck covered
    s.runAll ((0xA5#8 :: (covered ++ bytes16 check)).map .byteReceived) = .next (s.arrive ⟨seq, check, body⟩)

/-- In BOOTING no byte, gap or break has an effect (R142). Otherwise LINE_BREAK drops the kept bytes uncounted, and an OPEN session
ends: CLOSED, inbox and cache emptied, SENT captures WAITING, a SENDING one marked RETURN unless REMOVE, W 0, and nothing else
(R141, R149, R172). That the hunter's count of bytes to collect is 0 in HUNT (log entry 7), and that no reply is overtaken once the inbox
is empty (log entry 30), are the model's choices. -/
def Obligations.LineBreakEndsSession : Prop :=
  ∀ s : State,
    let hunting : HostLine := { s.line with hunter := ⟨.hunt, [], 0, none⟩ }
    let returned (e : DeliveryEntry) : DeliveryEntry :=
      if e.state = .sent then { e with state := .waiting }
      else if e.state = .sending ∧ e.mark = .none then { e with mark := .toReturn }
      else e
    (s.part = .booting → ∀ b : Byte,
      exec .lineBreak s = .next s ∧ exec (.byteReceived b) s = .next s ∧ exec .framingError s = .next s ∧
        exec (.badLength b) s = .next s ∧ exec .gapExpiry s = .next s ∧ exec (.messageReceived b) s = .next s) ∧
    (s.part ≠ .booting → s.engine.session = .closed → exec .lineBreak s = .next { s with line := hunting }) ∧
    (s.part ≠ .booting → s.engine.session = .opened →
      exec .lineBreak s = .next
        { s with
          line := hunting
          engine := { s.engine with session := .closed, inbox := [], cache := [], overtaken := none }
          delivery := { s.delivery with queue := s.delivery.queue.map returned, window := 0 } })

/-- The arrival of a request: the first of the five steps that applies. The replies of steps 2 to 4 are queued only while fewer
than 8 replies are queued (R143, R150, R151, R152). -/
def Obligations.ArrivalStepsInOrder : Prop :=
  ∀ (s : State) (r : Request),
    let waiting : Prop := (∃ q ∈ s.engine.inbox, q.seq = r.seq ∧ q.check = r.check) ∨
      ∃ p ∈ s.engine.parked, p.seq = r.seq ∧ p.check = r.check
    let replies (x : Reply) : List Reply :=
      if s.line.replies.length < 8 then s.line.replies ++ [x] else s.line.replies
    let queued (x : Reply) : State := { s with line := { s.line with replies := replies x } }
    let uncached : Prop := ∀ c ∈ s.engine.cache, ¬ (c.seq = r.seq ∧ c.check = r.check)
    let shut : Prop := s.engine.session = .closed ∧ r.body.head? ≠ some 0x01#8
    (waiting → s.arrive r = s) ∧
    (∀ before c behind, ¬ waiting → s.engine.cache = before ++ c :: behind → c.seq = r.seq → c.check = r.check →
      (∀ x ∈ before, ¬ (x.seq = r.seq ∧ x.check = r.check)) → s.arrive r = queued c.reply) ∧
    (¬ waiting → uncached → shut → s.arrive r = queued ⟨r.seq, r.body.headD 0, .noSession, 0, []⟩) ∧
    (¬ waiting → uncached → ¬ shut → 4 ≤ s.engine.inbox.length →
      s.arrive r = queued ⟨r.seq, r.body.headD 0, .full, 0, []⟩) ∧
    (¬ waiting → uncached → ¬ shut → s.engine.inbox.length < 4 →
      s.arrive r = { s with engine := { s.engine with inbox := s.engine.inbox ++ [r] } })

/-! ## The host line, outward -/

/-- OUTBOUND_CHOICE on a free transmitter: the oldest reply; else in an OPEN session the oldest TX_DONE record, else the oldest
event, whose notice takes the lost count, else, with fewer captures outstanding than W, the first WAITING capture, which becomes
SENDING; else nothing (R144, R166, R167, R176, R180). And the messages byte by byte: SYNC, LEN, TYPE, SEQ, BODY and CHECK, the check
of R134, and the bodies of a TX_DONE, an EVENT and a CAPTURE notice with the codes of chapter 12.6, subject FFh for none, unused
detail bytes 00h and no payload for a QUERY (R133, R134, R177, R195, R196). The subject 07h of an abandoned HOST frame stands for a
head that no run reaches. -/
def Obligations.OutboundChoiceOrder : Prop :=
  let word (w n : Nat) : List Byte := (List.range w).map fun k => BitVec.ofNat 8 (n / 256 ^ (w - 1 - k))
  let check (bytes : List Byte) : Word16 :=
    (bytes.flatMap fun b => (List.range 8).map fun k => b.getLsbD (7 - k)).foldl
      (fun c b => if c.getLsbD 15 != b then (c <<< 1) ^^^ 0x1021#16 else c <<< 1) 0xFFFF#16
  (∀ (type seq : Byte) (body : List Byte),
    let covered : List Byte := BitVec.ofNat 8 (body.length + 2) :: type :: seq :: body
    messageBytes type seq body = 0xA5#8 :: (covered ++ word 2 (check covered).toNat)) ∧
  (∀ d : TxDone, d.body =
    [BitVec.ofNat 8 d.entry.val,
      match d.outcome with
      | .sent => 0#8
      | .abandoned => 1#8
      | .cancelled => 2#8
      | .stopped => 3#8,
      BitVec.ofNat 8 d.attempts] ++ word 3 d.tag.toNat ++ word 4 d.stamp.toNat) ∧
  (∀ (e : EventRecord) (lost : Word16),
    let described : Byte × Byte × List Byte := match e.info with
      | .partState .booting => (1#8, 0xFF#8, [0#8, 0#8, 0#8, 0#8, 0#8, 0#8, 0#8])
      | .partState .config => (1#8, 0xFF#8, [1#8, 0#8, 0#8, 0#8, 0#8, 0#8, 0#8])
      | .partState .run => (1#8, 0xFF#8, [2#8, 0#8, 0#8, 0#8, 0#8, 0#8, 0#8])
      | .partState .stopping => (1#8, 0xFF#8, [3#8, 0#8, 0#8, 0#8, 0#8, 0#8, 0#8])
      | .tapState t .off => (2#8, BitVec.ofNat 8 t.val, [0#8, 0#8, 0#8, 0#8, 0#8, 0#8, 0#8])
      | .tapState t .syncOpened => (2#8, BitVec.ofNat 8 t.val, [1#8, 1#8, 0#8, 0#8, 0#8, 0#8, 0#8])
      | .tapState t .syncCheck => (2#8, BitVec.ofNat 8 t.val, [1#8, 2#8, 0#8, 0#8, 0#8, 0#8, 0#8])
      | .tapState t .syncFormat => (2#8, BitVec.ofNat 8 t.val, [1#8, 3#8, 0#8, 0#8, 0#8, 0#8, 0#8])
      | .tapState t .listen => (2#8, BitVec.ofNat 8 t.val, [2#8, 0#8, 0#8, 0#8, 0#8, 0#8, 0#8])
      | .tapState t .closing => (2#8, BitVec.ofNat 8 t.val, [3#8, 0#8, 0#8, 0#8, 0#8, 0#8, 0#8])
      | .trunkState .detached f => (3#8, 6#8, [0#8, BitVec.ofNat 8 f, 0#8, 0#8, 0#8, 0#8, 0#8])
      | .trunkState .joining f => (3#8, 6#8, [1#8, BitVec.ofNat 8 f, 0#8, 0#8, 0#8, 0#8, 0#8])
      | .trunkState .active f => (3#8, 6#8, [2#8, BitVec.ofNat 8 f, 0#8, 0#8, 0#8, 0#8, 0#8])
      | .trunkState .degraded f => (3#8, 6#8, [3#8, BitVec.ofNat 8 f, 0#8, 0#8, 0#8, 0#8, 0#8])
      | .trunkState .suspended f => (3#8, 6#8, [4#8, BitVec.ofNat 8 f, 0#8, 0#8, 0#8, 0#8, 0#8])
      | .drops i .noSlot value => (4#8, BitVec.ofNat 8 i.val, 1#8 :: (word 4 value.toNat ++ [0#8, 0#8]))
      | .drops i .overQuota value => (4#8, BitVec.ofNat 8 i.val, 2#8 :: (word 4 value.toNat ++ [0#8, 0#8]))
      | .drops i .relayFull value => (4#8, BitVec.ofNat 8 i.val, 3#8 :: (word 4 value.toNat ++ [0#8, 0#8]))
      | .drops i .deliveryFull value => (4#8, BitVec.ofNat 8 i.val, 4#8 :: (word 4 value.toNat ++ [0#8, 0#8]))
      | .relayAbandon reason source seq tagOut attempts =>
        (5#8, match source with
          | .ingress i => BitVec.ofNat 8 i.val
          | .host => 7#8,
        (match reason with
          | .retries => 1#8
          | .flushed => 2#8) :: (word 2 seq.toNat ++ word 3 tagOut.toNat ++ [BitVec.ofNat 8 attempts]))
      | .relayStopped removed => (5#8, 0xFF#8, [3#8, BitVec.ofNat 8 removed, 0#8, 0#8, 0#8, 0#8, 0#8])
    e.body lost =
      word 2 e.number.toNat ++ word 2 lost.toNat ++ [described.1, described.2.1] ++ word 4 e.stamp.toNat ++ described.2.2) ∧
  (∀ (number seq generation : Word16) (i : IngressNo) (index : Nat) (r : SlotRecord),
    r.seq = some seq → r.classified = some ⟨generation, index⟩ → r.frameOut.valid = true →
    captureBody number (.ingress i) r =
      word 2 number.toNat ++ [BitVec.ofNat 8 i.val] ++ word 2 seq.toNat ++ word 3 r.tagReceived.toNat ++
        word 3 r.tagOut.toNat ++ [if r.kind = .data then 1#8 else 2#8, BitVec.ofNat 8 r.length] ++ word 4 r.stamp.toNat ++
        word 2 generation.toNat ++ [BitVec.ofNat 8 index] ++ if r.kind = .data then r.payload else []) ∧
  ∀ s : State, s.part ≠ .booting → s.line.htx = none →
    let sending (kind : MessageClass) (bytes : List Byte) : HostLine := { s.line with htx := some ⟨kind, bytes⟩ }
    let quiet : Prop := s.line.replies = [] ∧ s.engine.session = .opened
    let outstanding : Nat := (s.delivery.queue.filter fun e => e.state ≠ .waiting).length
    (∀ r rest, s.line.replies = r :: rest →
      let bytes := messageBytes 0x81#8 r.seq (r.code :: r.status.code :: r.detail :: r.result)
      exec .outboundChoice s = .next { s with line := sending .reply bytes }) ∧
    (s.line.replies = [] → s.engine.session = .closed → exec .outboundChoice s = .next s) ∧
    (∀ d rest, quiet → s.txDone = d :: rest →
      exec .outboundChoice s = .next { s with line := sending .txDone (messageBytes 0x83#8 s.engine.epoch d.body) }) ∧
    (∀ e rest, quiet → s.txDone = [] → s.events.queue = e :: rest →
      exec .outboundChoice s = .next { s with
        line := sending .event (messageBytes 0x84#8 s.engine.epoch (e.body s.events.lost))
        events := { s.events with lost := 0 } }) ∧
    (∀ before e behind, quiet → s.txDone = [] → s.events.queue = [] → outstanding < s.delivery.window →
      s.delivery.queue = before ++ e :: behind → e.state = .waiting → (∀ x ∈ before, x.state ≠ .waiting) →
      let body := captureBody e.number (s.store.source e.slot) (s.store.record e.slot)
      exec .outboundChoice s = .next { s with
        line := sending .capture (messageBytes 0x82#8 s.engine.epoch body)
        delivery := { s.delivery with queue := before ++ { e with state := .sending, mark := .none } :: behind } }) ∧
    (quiet → s.txDone = [] → s.events.queue = [] →
      s.delivery.window ≤ outstanding ∨ (∀ x ∈ s.delivery.queue, x.state ≠ .waiting) →
      exec .outboundChoice s = .next s)

/-- The completions of the four classes: a reply leaves the reply queue; the SENDING capture becomes SENT, or WAITING with mark
RETURN, or with mark REMOVE leaves and frees its holder; a TX_DONE record leaves and its entry becomes FREE; an event record
leaves (R143, R145, R168, R176, R180). -/
def Obligations.CompletionsHandedOn : Prop :=
  ∀ (s : State) (bytes : List Byte),
    let free : HostLine := { s.line with htx := none }
    (∀ br1 br0 r rest, s.line.htx = some ⟨.reply, bytes⟩ → s.line.replies = r :: rest →
      ¬ (r.code = 0x05#8 ∧ r.status = .ok) →
      exec (.replyCompleted br1 br0) s = .next { s with line := { free with replies := rest } }) ∧
    (∀ before e behind, s.line.htx = some ⟨.capture, bytes⟩ → s.delivery.queue = before ++ e :: behind →
      e.state = .sending → (∀ x ∈ before ++ behind, x.state ≠ .sending) →
      (e.mark = .none → exec .captureCompleted s = .next { s with
        line := free, delivery := { s.delivery with queue := before ++ { e with state := .sent } :: behind } }) ∧
      (e.mark = .toReturn → exec .captureCompleted s = .next { s with
        line := free
        delivery := { s.delivery with queue := before ++ { e with state := .waiting, mark := .none } :: behind } }) ∧
      (e.mark = .toRemove → exec .captureCompleted s = .next { s with
        line := free
        delivery := { s.delivery with queue := before ++ behind }
        store := s.store.leave .delivery e.slot })) ∧
    (∀ d rest, s.line.htx = some ⟨.txDone, bytes⟩ → s.txDone = d :: rest →
      exec .txDoneCompleted s = .next { s with
        line := free, txDone := rest, entries := s.entries.set d.entry ⟨.free, none, 0, false, none⟩ }) ∧
    ∀ e rest, s.line.htx = some ⟨.event, bytes⟩ → s.events.queue = e :: rest →
      exec .eventCompleted s = .next { s with line := free, events := { s.events with queue := rest } }

/-! ## Requests: the session and the operating states -/

/-- BAD_REQUEST: an empty body, an unknown code or a body of another length than its code gives is refused without effect
(R154, R195). START in CONFIG enters RUN with its event and is refused with STATE otherwise (R185). RESET queues its OK behind every
queued reply and marks a reset pending, in any part state (R190, R143); but the reply of a STOP that completed at its moment, kept as
overtaken, goes behind the RESET reply, unless it is on HTX already or has gone (R194). What that moment is, the field that keeps the
reply, and the reply on HTX are the model's choices (log entry 30). -/
def Obligations.BadRequestStartAndReset : Prop :=
  ∀ (s : State) (r : Request) (rest : List Request), s.Ready r rest →
    let lengths : List (Byte × Nat) :=
      [(0x01#8, 0), (0x02#8, 1), (0x03#8, 0), (0x04#8, 0), (0x05#8, 0), (0x10#8, 3), (0x11#8, 1), (0x12#8, 1), (0x13#8, 2),
       (0x20#8, 16), (0x21#8, 2), (0x22#8, 3), (0x23#8, 1), (0x24#8, 1), (0x30#8, 3), (0x31#8, 0), (0x32#8, 0), (0x33#8, 0),
       (0x35#8, 1), (0x40#8, 2), (0x41#8, 0), (0x42#8, 0), (0x43#8, 0), (0x50#8, 1), (0x51#8, 2), (0x52#8, 0), (0x53#8, 0)]
    let wrong : Prop :=
      r.body = [] ∨
      (∃ b fields, r.body = b :: fields ∧ b ≠ 0x34#8 ∧ ∀ n, (b, n) ∈ lengths → fields.length ≠ n) ∨
      (∃ fields, r.body = 0x34#8 :: fields ∧
        ∀ e t2 t1 t0 kind len payload, fields = e :: t2 :: t1 :: t0 :: kind :: len :: payload →
          payload.length ≠ if kind = 0x01#8 then len.toNat else 0)
    (wrong → exec .badRequest s = .next (s.replied r rest .badRequest 0 [])) ∧
    (r.body = [0x03#8] → s.part = .config →
      exec .start s = .next (State.replied
        { s with part := .run, events := s.events.push (.partState .run) s.stamp } r rest .ok 0 [0x02#8])) ∧
    (r.body = [0x03#8] → s.part ≠ .config → exec .start s = .next (s.replied r rest .state s.part.code [])) ∧
    (r.body = [0x05#8] →
      let ok : Reply := ⟨r.seq, 0x05#8, .ok, 0, []⟩
      let answered := s.replied r rest .ok 0 []
      let marked (replies : List Reply) : State := { answered with
        line := { answered.line with replies := replies }
        engine := { answered.engine with resetPending := true, overtaken := none } }
      let answeredBefore (x : Reply) (waiting : List Reply) (y : Reply) : List Reply :=
        (waiting.filter fun z => z ≠ x) ++ y :: waiting.filter fun z => z = x
      let onLine : Prop := ∃ bytes, s.line.htx = some ⟨.reply, bytes⟩
      (s.engine.overtaken = none → exec .reset s = .next (marked (s.line.replies ++ [ok]))) ∧
      ∀ x, s.engine.overtaken = some x → x.code = 0x04#8 →
        (¬ onLine → exec .reset s = .next (marked (answeredBefore x s.line.replies ok))) ∧
        ∀ front waiting, onLine → s.line.replies = front :: waiting →
          exec .reset s = .next (marked (front :: answeredBefore x waiting ok)))

/-- HELLO: an OPEN session ends first; the next epoch in the series 1 to 255 opens the new session with W 0, and the reply with
the identity fields is the cache's only entry (R147, R148, R149, R172). That no reply is overtaken after a session end is the model's
choice (log entry 30). -/
def Obligations.HelloOpensSession : Prop :=
  ∀ (s : State) (r : Request) (rest : List Request), s.Ready r rest → r.body = [0x01#8] →
    let epoch : Byte := if s.engine.epoch = 255 then 1 else s.engine.epoch + 1
    let reply : Reply :=
      ⟨r.seq, 0x01#8, .ok, 0, [0x0A#8, 0x31#8, 0x06#8, 0x27#8, 0x03#8, 96#8, 6#8, 8#8, 64#8, 32#8, epoch]⟩
    let line : HostLine := { s.line with replies := s.line.replies ++ [reply] }
    let engine (inbox : List Request) : Engine :=
      { s.engine with session := .opened, epoch := epoch, inbox := inbox, cache := [⟨r.seq, r.check, reply⟩] }
    let returned (e : DeliveryEntry) : DeliveryEntry :=
      if e.state = .sent then { e with state := .waiting }
      else if e.state = .sending ∧ e.mark = .none then { e with mark := .toReturn }
      else e
    (s.engine.session = .closed →
      exec .hello s = .next
        { s with line := line, engine := engine rest, delivery := { s.delivery with window := 0 } }) ∧
    (s.engine.session = .opened →
      exec .hello s = .next
        { s with
          line := line
          engine := { engine [] with overtaken := none }
          delivery := { s.delivery with queue := s.delivery.queue.map returned, window := 0 } })

/-- STATUS: for the part its seventeen values, changing nothing; for an ingress its receiver's state, settings, quota, use, next
sequence number and eight counters, clearing its DROPS latch; any other subject is refused with BAD_VALUE, detail 1 (R51, R128,
R160, R161, R178). -/
def Obligations.StatusReportsState : Prop :=
  ∀ (s : State) (r : Request) (rest : List Request) (subject : Byte), s.Ready r rest → r.body = [0x02#8, subject] →
    let head : List Byte :=
      if s.relay.queue = [] then [0x00#8, 0x00#8]
      else [BitVec.ofNat 8 s.relay.headRecord.attempts, s.relay.headRecord.passOvers]
    (subject = 0xFF#8 →
      exec .status s = .next (s.replied r rest .ok 0
        ([s.part.code] ++ bytes32 s.stamp ++
          [BitVec.ofNat 8 s.store.freeList.length, s.trunk.state.code,
            BitVec.ofNat 8 (s.trunk.history.count .fault), s.relay.gate.code, BitVec.ofNat 8 s.relay.queue.length] ++
          head ++ (List.finRange 8).map (fun e => (s.entry e).state.code) ++
          [BitVec.ofNat 8 s.delivery.queue.length,
            BitVec.ofNat 8 (s.delivery.queue.filter fun e => e.state = .sent).length,
            BitVec.ofNat 8 s.delivery.window, BitVec.ofNat 8 s.events.queue.length] ++
          bytes16 s.events.lost ++ bytes16 s.line.linkErrors ++ [s.engine.epoch]))) ∧
    (∀ i : IngressNo, subject = BitVec.ofNat 8 i.val →
      let g := s.ingress i
      let state : Byte := if h : i.val < 6 then (s.tap ⟨i.val, h⟩).state.code else s.trunk.state.code
      exec .status s = .next (State.replied
        { s with ingresses := s.ingresses.set i { g with dropsLatch := false } } r rest .ok 0
        ([state, g.rate.code, g.stampPoint.code, BitVec.ofNat 8 (s.store.quota.get i),
            BitVec.ofNat 8 (s.store.use.get i)] ++
          bytes16 g.nextSeq ++ bytes32 g.counters.valid ++ bytes32 g.counters.invalidCheck ++
          bytes32 g.counters.invalidFormat ++ bytes32 g.counters.noSlot ++ bytes32 g.counters.overQuota ++
          bytes32 g.counters.windowDrop ++ bytes32 g.counters.relayFull ++ bytes32 g.counters.deliveryFull))) ∧
    (7 ≤ subject.toNat → subject ≠ 0xFF#8 → exec .status s = .next (s.replied r rest .badValue 1 []))

/-- STOP: OK at once in CONFIG, BUSY in STOPPING. In RUN the part is STOPPING; every tap without a frame in progress is OFF, one
with a frame is CLOSING; the trunk port is detached, or has its detach pending over its attempt or frame; the events stand in
that order; the request is parked, and STOP completes here if nothing is left to report (R48, R125, R186, R188). That a tap's count of
recessive bit times is 0 in OFF (log entry 8), and that a STOP that completes within its own execution has no reply overtaken (log entry
30), are the model's choices. -/
def Obligations.StopClosesEverything : Prop :=
  ∀ (s : State) (r : Request) (rest : List Request), s.Ready r rest → r.body = [0x04#8] →
    let closes (t : TapNo) : Bool := (s.tap t).state = .listen && (s.tap t).inProgress.isSome
    let turnsOff (t : TapNo) : Bool :=
      (s.tap t).state = .sync || ((s.tap t).state = .listen && (s.tap t).inProgress.isNone)
    let busy : Bool := s.trunk.inFlight.isSome || s.trunk.inProgress.isSome
    let detaches : Bool := s.trunk.state ≠ .detached && !busy
    let occupied : List TapNo := (List.finRange 6).filter fun t => (s.tap t).inProgress.isSome
    let tapEvents : List EventInfo := (List.finRange 6).filterMap fun t =>
      if closes t then some (.tapState t .closing) else if turnsOff t then some (.tapState t .off) else none
    let trunkEvents : List EventInfo := if detaches then [.trunkState .detached 0] else []
    let stopping : State :=
      { s with
        part := .stopping
        stop := some ⟨occupied, busy⟩
        taps := Vector.ofFn fun t =>
          if closes t then { s.tap t with state := .closing }
          else if turnsOff t then { s.tap t with state := .off, synchronised := false, idleCount := 0 }
          else s.tap t
        trunk :=
          if busy then { s.trunk with detachPending := true }
          else if detaches then
            { s.trunk with
              state := .detached, detachPending := false, parkedDetach := false, history := [], idleCount := 0
              synchronised := false }
          else s.trunk
        events := (EventInfo.partState .stopping :: (tapEvents ++ trunkEvents)).foldl
          (fun q info => q.push info s.stamp) s.events }
    (s.part = .config → exec .stop s = .next (s.replied r rest .ok 0 [0x00#8, 0x00#8])) ∧
    (s.part = .stopping → exec .stop s = .next (s.replied r rest .busy 0 [])) ∧
    (s.Lawful → s.part = .run → (occupied ≠ [] ∨ busy = true) →
      exec .stop s = .next (stopping.parkedNow r rest .stop)) ∧
    (s.Lawful → s.part = .run → occupied = [] → busy = false →
      exec .stop s = .next (stopping.parkedNow r rest .stop).completeStop)

/-! ## Requests: taps, quotas and the trunk port -/

/-- SET_TAP, SET_TRUNK and SET_QUOTA: the first field out of range is refused with BAD_VALUE and its number, a tap not OFF or a
port not DETACHED with STATE and its code; accepted, exactly the settings named are replaced and reported (R30, R31, R37,
R111). -/
def Obligations.SettingsReplaced : Prop :=
  ∀ (s : State) (r : Request) (rest : List Request) (b1 b2 b3 : Byte), s.Ready r rest →
    let refused (n : Byte) : Host.Outcome State Fault Refusal := .next (s.replied r rest .badValue n [])
    (r.body = [0x10#8, b1, b2, b3] →
      (6 ≤ b1.toNat → exec .setTap s = refused 1) ∧
      (b1.toNat < 6 → 4 ≤ b2.toNat → exec .setTap s = refused 2) ∧
      (b1.toNat < 6 → b2.toNat < 4 → 2 ≤ b3.toNat → exec .setTap s = refused 3) ∧
      ∀ (t : TapNo) (rate : Rate) (point : StampPoint),
        b1 = BitVec.ofNat 8 t.val → b2 = rate.code → b3 = point.code →
        let g : Ingress := { s.ingress t.castSucc with rate := rate, stampPoint := point }
        ((s.tap t).state ≠ .off → exec .setTap s = .next (s.replied r rest .state (s.tap t).state.code [])) ∧
        ((s.tap t).state = .off →
          exec .setTap s = .next (State.replied { s with ingresses := s.ingresses.set t.castSucc g }
            r rest .ok 0 [b1, b2, b3]))) ∧
    (r.body = [0x40#8, b1, b2] →
      (4 ≤ b1.toNat → exec .setTrunk s = refused 1) ∧
      (b1.toNat < 4 → 2 ≤ b2.toNat → exec .setTrunk s = refused 2) ∧
      ∀ (rate : Rate) (point : StampPoint), b1 = rate.code → b2 = point.code →
        let g : Ingress := { s.ingress 6 with rate := rate, stampPoint := point }
        (s.trunk.state ≠ .detached → exec .setTrunk s = .next (s.replied r rest .state s.trunk.state.code [])) ∧
        (s.trunk.state = .detached →
          exec .setTrunk s = .next (State.replied { s with ingresses := s.ingresses.set (6 : IngressNo) g }
            r rest .ok 0 [b1, b2]))) ∧
    (r.body = [0x13#8, b1, b2] →
      (7 ≤ b1.toNat → exec .setQuota s = refused 1) ∧
      (b1.toNat < 7 → b2 = 0 ∨ 88 < b2.toNat → exec .setQuota s = refused 2) ∧
      ∀ i : IngressNo, b1 = BitVec.ofNat 8 i.val → 1 ≤ b2.toNat → b2.toNat ≤ 88 →
        exec .setQuota s = .next (State.replied
          { s with store := { s.store with quota := s.store.quota.set i b2.toNat } }
          r rest .ok 0 [b1, b2, BitVec.ofNat 8 (s.store.use.get i)]))

/-- OPEN_TAP, ATTACH and RESUME: the refusals in their order, and when none applies the tap becomes SYNC with reason OPENED, or
the port JOINING with an empty history, its event stored before the reply; a RESUME keeps a frame in progress (R38, R112,
R122). -/
def Obligations.OpenAttachResume : Prop :=
  ∀ (s : State) (r : Request) (rest : List Request) (b1 : Byte), s.Ready r rest →
    let joining (synchronised : Bool) : State :=
      { s with
        trunk := { s.trunk with state := .joining, history := [], idleCount := 0, synchronised := synchronised }
        events := s.events.push (.trunkState .joining 0) s.stamp }
    (r.body = [0x11#8, b1] →
      (6 ≤ b1.toNat → exec .openTap s = .next (s.replied r rest .badValue 1 [])) ∧
      ∀ t : TapNo, b1 = BitVec.ofNat 8 t.val →
        (s.part ≠ .run → exec .openTap s = .next (s.replied r rest .state s.part.code [])) ∧
        (s.part = .run → (s.tap t).parkedClose = true → exec .openTap s = .next (s.replied r rest .busy 0 [])) ∧
        (s.part = .run → (s.tap t).parkedClose = false → (s.tap t).state ≠ .off →
          exec .openTap s = .next (s.replied r rest .state (s.tap t).state.code [])) ∧
        (s.part = .run → (s.tap t).parkedClose = false → (s.tap t).state = .off →
          exec .openTap s = .next (State.replied
            { s with
              taps := s.taps.set t ⟨.sync, false, 0, (s.tap t).inProgress, false⟩
              events := s.events.push (.tapState t .syncOpened) s.stamp }
            r rest .ok 0 [b1, 0x01#8]))) ∧
    (r.body = [0x41#8] →
      (s.part ≠ .run → exec .attach s = .next (s.replied r rest .state s.part.code [])) ∧
      (s.part = .run → s.trunk.state ≠ .detached →
        exec .attach s = .next (s.replied r rest .state s.trunk.state.code [])) ∧
      (s.part = .run → s.trunk.state = .detached →
        exec .attach s = .next ((joining false).replied r rest .ok 0 [0x01#8]))) ∧
    (r.body = [0x43#8] →
      (s.trunk.detachPending = true → exec .resume s = .next (s.replied r rest .busy 0 [])) ∧
      (s.trunk.detachPending = false → s.trunk.state ≠ .suspended →
        exec .resume s = .next (s.replied r rest .state s.trunk.state.code [])) ∧
      (s.trunk.detachPending = false → s.trunk.state = .suspended →
        exec .resume s = .next ((joining s.trunk.synchronised).replied r rest .ok 0 [0x01#8])))

/-- CLOSE_TAP: OK at once on a tap OFF; a tap in SYNC, or in LISTEN without a frame, becomes OFF with its event and is answered
OK, and its arrival is reported; with a frame in progress the tap becomes CLOSING and the request is parked; on a tap already
CLOSING it is refused with BUSY or, with none parked, parked (R44, R45, R47, R48). That the count of recessive bit times is 0 in OFF
is the model's choice (log entry 8). -/
def Obligations.CloseTapByState : Prop :=
  ∀ (s : State) (r : Request) (rest : List Request) (b1 : Byte), s.Ready r rest → r.body = [0x12#8, b1] →
    (6 ≤ b1.toNat → exec .closeTap s = .next (s.replied r rest .badValue 1 [])) ∧
    ∀ t : TapNo, b1 = BitVec.ofNat 8 t.val →
      let result : List Byte := b1 :: bytes16 (s.ingress t.castSucc).nextSeq
      let off : Tap := { s.tap t with state := .off, synchronised := false, idleCount := 0 }
      let atOnce : Prop := (s.tap t).state = .sync ∨ ((s.tap t).state = .listen ∧ (s.tap t).inProgress = none)
      ((s.tap t).state = .off → exec .closeTap s = .next (s.replied r rest .ok 0 result)) ∧
      (atOnce →
        exec .closeTap s = .next ((State.replied
          { s with taps := s.taps.set t off, events := s.events.push (.tapState t .off) s.stamp }
          r rest .ok 0 result).reportTap t)) ∧
      ((s.tap t).state = .listen → (s.tap t).inProgress.isSome = true →
        exec .closeTap s = .next (State.parkedNow
          { s with
            taps := s.taps.set t { s.tap t with state := .closing, parkedClose := true }
            events := s.events.push (.tapState t .closing) s.stamp }
          r rest (.closeTap t))) ∧
      ((s.tap t).state = .closing → (s.tap t).parkedClose = true →
        exec .closeTap s = .next (s.replied r rest .busy 0 [])) ∧
      ((s.tap t).state = .closing → (s.tap t).parkedClose = false →
        exec .closeTap s = .next (State.parkedNow
          { s with taps := s.taps.set t { s.tap t with parkedClose := true } } r rest (.closeTap t)))

/-- DETACH: OK at once on a DETACHED port; else detach-pending and parked, and completed within the execution when neither an
attempt is in flight nor a frame in progress; with a detach pending already, BUSY or, with none parked, parked (R123, R124). -/
def Obligations.DetachByState : Prop :=
  ∀ (s : State) (r : Request) (rest : List Request), s.Ready r rest → r.body = [0x42#8] →
    let parked : State :=
      State.parkedNow { s with trunk := { s.trunk with detachPending := true, parkedDetach := true } } r rest .detach
    (s.trunk.state = .detached →
      exec .detach s = .next (s.replied r rest .ok 0 (0x00#8 :: bytes16 (s.ingress 6).nextSeq))) ∧
    (s.trunk.state ≠ .detached → s.trunk.detachPending = false →
      s.trunk.inFlight.isSome = true ∨ s.trunk.inProgress.isSome = true → exec .detach s = .next parked) ∧
    (s.trunk.state ≠ .detached → s.trunk.detachPending = false → s.trunk.inFlight = none →
      s.trunk.inProgress = none → exec .detach s = .next parked.completeDetach) ∧
    (s.trunk.state ≠ .detached → s.trunk.detachPending = true → s.trunk.parkedDetach = true →
      exec .detach s = .next (s.replied r rest .busy 0 [])) ∧
    (s.trunk.state ≠ .detached → s.trunk.detachPending = true → s.trunk.parkedDetach = false →
      exec .detach s = .next parked)

/-! ## Requests: window tables -/

/-- SET_WINDOW and SET_DEFAULT: the first field that fails its check is refused with BAD_VALUE and its number; a lawful record or
target replaces exactly the staged window or the staged default, and the reply carries the generation unchanged (R62, R63,
R64). -/
def Obligations.StagedTableWritten : Prop :=
  ∀ (s : State) (r : Request) (rest : List Request), s.Ready r rest →
    (∀ b1 b2 b3 m2 m1 m0 k2 k1 k0 b6 b7 b8 b9 w2 w1 w0 : Byte,
      r.body = [0x20#8, b1, b2, b3, m2, m1, m0, k2, k1, k0, b6, b7, b8, b9, w2, w1, w0] →
      let unmasked : Tag := ~~~(tagOf k2 k1 k0)
      let failing : Option Byte :=
        if 7 ≤ b1.toNat then some 1
        else if 8 ≤ b2.toNat then some 2
        else if 2 ≤ b3.toNat then some 3
        else if tagOf m2 m1 m0 &&& unmasked ≠ 0 then some 4
        else if b6 = 0 ∨ 4 ≤ b6.toNat then some 6
        else if 33 ≤ b7.toNat then some 7
        else if 4 ≤ b8.toNat ∨ (b1 = 6 ∧ (b8 = 1 ∨ b8 = 3)) then some 8
        else if 2 ≤ b9.toNat then some 9
        else if (b9 = 1 ∧ tagOf w2 w1 w0 &&& unmasked ≠ 0) ∨ (b9 = 0 ∧ tagOf w2 w1 w0 ≠ 0) then some 10
        else none
      (∀ n, failing = some n → exec .setWindow s = .next (s.replied r rest .badValue n [])) ∧
      (failing = none → ∃ (i : IngressNo) (k : WindowNo) (w : Window),
        w.Lawful i ∧ r.body = 0x20#8 :: BitVec.ofNat 8 i.val :: BitVec.ofNat 8 k.val :: w.bytes)) ∧
    (∀ (i : IngressNo) (k : WindowNo) (w : Window), w.Lawful i →
      r.body = 0x20#8 :: BitVec.ofNat 8 i.val :: BitVec.ofNat 8 k.val :: w.bytes →
      let g := s.ingress i
      let staged : Table := { g.staged with windows := g.staged.windows.set k w }
      exec .setWindow s = .next (State.replied
        { s with ingresses := s.ingresses.set i { g with staged := staged } } r rest .ok 0
        ([BitVec.ofNat 8 i.val, BitVec.ofNat 8 k.val] ++ bytes16 g.generation))) ∧
    (∀ b1 b2 : Byte, r.body = [0x21#8, b1, b2] →
      (7 ≤ b1.toNat → exec .setDefault s = .next (s.replied r rest .badValue 1 [])) ∧
      (b1.toNat < 7 → 4 ≤ b2.toNat ∨ (b1 = 6 ∧ (b2 = 1 ∨ b2 = 3)) →
        exec .setDefault s = .next (s.replied r rest .badValue 2 []))) ∧
    ∀ (i : IngressNo) (target : Target), (i = 6 → target ≠ .relay ∧ target ≠ .both) →
      r.body = [0x21#8, BitVec.ofNat 8 i.val, target.code] →
      let g := s.ingress i
      exec .setDefault s = .next (State.replied
        { s with ingresses := s.ingresses.set i { g with staged := { g.staged with default := target } } }
        r rest .ok 0 (BitVec.ofNat 8 i.val :: bytes16 g.generation))

/-- READ_WINDOW reports a window or the default action of either copy and changes nothing; COMMIT copies staged to active and
raises the generation, DISCARD_STAGED copies active to staged, for one ingress or for all seven at once; any other field value is
refused with BAD_VALUE (R65, R66, R67, R68, R196). -/
def Obligations.TablesReadCommittedDiscarded : Prop :=
  ∀ (s : State) (r : Request) (rest : List Request) (b1 b2 b3 : Byte), s.Ready r rest →
    let refused (n : Byte) : Host.Outcome State Fault Refusal := .next (s.replied r rest .badValue n [])
    let committed (i : IngressNo) : Ingress :=
      { s.ingress i with active := (s.ingress i).staged, generation := (s.ingress i).generation + 1 }
    let discarded (i : IngressNo) : Ingress := { s.ingress i with staged := (s.ingress i).active }
    (r.body = [0x22#8, b1, b2, b3] →
      (7 ≤ b1.toNat → exec .readWindow s = refused 1) ∧
      (b1.toNat < 7 → 2 ≤ b2.toNat → exec .readWindow s = refused 2) ∧
      (b1.toNat < 7 → b2.toNat < 2 → 9 ≤ b3.toNat → exec .readWindow s = refused 3) ∧
      ∀ i : IngressNo, b1 = BitVec.ofNat 8 i.val → b2.toNat < 2 →
        let table : Table := if b2 = 0 then (s.ingress i).active else (s.ingress i).staged
        (∀ k : WindowNo, b3 = BitVec.ofNat 8 k.val →
          exec .readWindow s = .next (s.replied r rest .ok 0
            ([b1, b2, b3] ++ bytes16 (s.ingress i).generation ++ (table.windows.get k).bytes))) ∧
        (b3 = 8 →
          exec .readWindow s = .next (s.replied r rest .ok 0
            ([b1, b2, b3] ++ bytes16 (s.ingress i).generation ++ [table.default.code])))) ∧
    (r.body = [0x23#8, b1] →
      (7 ≤ b1.toNat → b1 ≠ 0xFF#8 → exec .commit s = refused 1) ∧
      (∀ i : IngressNo, b1 = BitVec.ofNat 8 i.val →
        exec .commit s = .next (State.replied { s with ingresses := s.ingresses.set i (committed i) }
          r rest .ok 0 (b1 :: bytes16 ((s.ingress i).generation + 1)))) ∧
      (b1 = 0xFF#8 →
        exec .commit s = .next (State.replied { s with ingresses := Vector.ofFn committed }
          r rest .ok 0 ((List.finRange 7).flatMap fun i => bytes16 ((s.ingress i).generation + 1))))) ∧
    (r.body = [0x24#8, b1] →
      (7 ≤ b1.toNat → b1 ≠ 0xFF#8 → exec .discardStaged s = refused 1) ∧
      (∀ i : IngressNo, b1 = BitVec.ofNat 8 i.val →
        exec .discardStaged s = .next (State.replied { s with ingresses := s.ingresses.set i (discarded i) }
          r rest .ok 0 [b1])) ∧
      (b1 = 0xFF#8 →
        exec .discardStaged s = .next (State.replied { s with ingresses := Vector.ofFn discarded }
          r rest .ok 0 [b1])))

/-! ## Requests: the relay block and the host entries -/

/-- SET_RELAY replaces its three settings; HOLD_RELAY and RELEASE_RELAY set the gate; FLUSH_RELAY removes every entry but a head in
flight, which becomes flush-pending, and holder RELAY leaves each removed slot in queue order (R84, R101, R104). -/
def Obligations.RelaySettingsGateFlush : Prop :=
  ∀ (s : State) (r : Request) (rest : List Request) (b1 b2 b3 : Byte), s.Ready r rest →
    (r.body = [0x30#8, b1, b2, b3] →
      (16 ≤ b2.toNat → exec .setRelay s = .next (s.replied r rest .badValue 2 [])) ∧
      (b2.toNat < 16 → 2 ≤ b3.toNat → exec .setRelay s = .next (s.replied r rest .badValue 3 [])) ∧
      (b2.toNat < 16 → b3.toNat < 2 →
        exec .setRelay s = .next (State.replied
          { s with relay := { s.relay with yieldLimit := b1, retryLimit := b2.toNat, inDegraded := b3 = 1 } }
          r rest .ok 0 [b1, b2, b3]))) ∧
    (r.body = [0x31#8] →
      exec .holdRelay s = .next (State.replied { s with relay := { s.relay with gate := .held } } r rest .ok 0 [0x01#8])) ∧
    (r.body = [0x32#8] →
      exec .releaseRelay s = .next
        (State.replied { s with relay := { s.relay with gate := .opened } } r rest .ok 0 [0x00#8])) ∧
    (r.body = [0x33#8] →
      (s.trunk.inFlight ≠ some .relayHead →
        exec .flushRelay s = .next (State.replied
          { s with
            relay := { s.relay with queue := [], head := none }
            store := s.store.leaveAll .relay s.relay.queue }
          r rest .ok 0 [BitVec.ofNat 8 s.relay.queue.length])) ∧
      ∀ n behind h, s.trunk.inFlight = some .relayHead → s.relay.queue = n :: behind → s.relay.head = some h →
        exec .flushRelay s = .next (State.replied
          { s with
            relay := { s.relay with queue := [n], head := some { h with flushPending := true } }
            store := s.store.leaveAll .relay behind }
          r rest .ok 0 [BitVec.ofNat 8 behind.length]))

/-- SEND: the refusals in their order; in RUN with the entry FREE the front free slot is HELD with ingress 7, the frame as given,
the present stamp and holder ENTRY, and the entry is PENDING with it (R27, R86, R13). -/
def Obligations.SendPlacesFrame : Prop :=
  ∀ (s : State) (r : Request) (rest : List Request) (b1 t2 t1 t0 kind len : Byte) (payload : List Byte),
    s.Ready r rest → r.body = 0x34#8 :: b1 :: t2 :: t1 :: t0 :: kind :: len :: payload →
    payload.length = (if kind = 0x01#8 then len.toNat else 0) →
    (8 ≤ b1.toNat → exec .send s = .next (s.replied r rest .badValue 1 [])) ∧
    (b1.toNat < 8 → kind ≠ 0x01#8 → kind ≠ 0x02#8 → exec .send s = .next (s.replied r rest .badValue 3 [])) ∧
    (b1.toNat < 8 → kind = 0x01#8 ∨ kind = 0x02#8 → 33 ≤ len.toNat →
      exec .send s = .next (s.replied r rest .badValue 4 [])) ∧
    ∀ (e : EntryNo) (k : FrameKind), b1 = BitVec.ofNat 8 e.val → kind = k.code → len.toNat ≤ 32 →
      (s.part ≠ .run → exec .send s = .next (s.replied r rest .state s.part.code [])) ∧
      (s.part = .run → (s.entry e).state ≠ .free → exec .send s = .next (s.replied r rest .busy 0 [])) ∧
      ∀ n behind, s.part = .run → (s.entry e).state = .free → s.store.freeList = n :: behind →
        let record : SlotRecord :=
          { seq := none, tagReceived := (t2 ++ t1) ++ t0, tagOut := (t2 ++ t1) ++ t0, kind := k, length := len.toNat
            payload := payload, stamp := s.stamp, classified := none }
        exec .send s = .next (State.replied
          { s with
            store := { s.store with
              slots := s.store.slots.set n (.held .host record ⟨false, false, true⟩), freeList := behind }
            entries := s.entries.set e ⟨.pending, some n, 0, false, none⟩ }
          r rest .ok 0 (b1 :: bytes32 s.stamp))

/-- CANCEL: a PENDING entry becomes DONE CANCELLED, with its attempts in the reply; an IN_FLIGHT one has its cancel requested and
is answered DEFERRED; a FREE or DONE one is refused with STATE and its code (R88, R89). -/
def Obligations.CancelByEntryState : Prop :=
  ∀ (s : State) (r : Request) (rest : List Request) (b1 : Byte), s.Ready r rest → r.body = [0x35#8, b1] →
    (8 ≤ b1.toNat → exec .cancel s = .next (s.replied r rest .badValue 1 [])) ∧
    ∀ e : EntryNo, b1 = BitVec.ofNat 8 e.val →
      ((s.entry e).state = .pending →
        exec .cancel s = .next ((s.entryDone e .cancelled).replied r rest .ok 0
          [b1, BitVec.ofNat 8 (s.entry e).attempts])) ∧
      ((s.entry e).state = .inFlight →
        exec .cancel s = .next (State.replied
          { s with entries := s.entries.set e { s.entry e with cancelRequested := true } } r rest .deferred 0 [b1])) ∧
      ((s.entry e).state = .free ∨ (s.entry e).state = .done →
        exec .cancel s = .next (s.replied r rest .state (s.entry e).state.code []))

/-! ## Requests: delivery -/

/-- GRANT sets W; ACK of a SENT capture removes it and every entry before it, in queue order; RESEND makes SENT captures WAITING
and marks a SENDING one; DISCARD_CAPTURES removes every capture but a SENDING one, which it marks REMOVE; a W above 16 or a number
that no SENT capture carries is refused with BAD_VALUE (R166, R169, R170, R171). -/
def Obligations.CapturesGrantedAckedReturned : Prop :=
  ∀ (s : State) (r : Request) (rest : List Request) (b1 b2 : Byte), s.Ready r rest →
    let queue := s.delivery.queue
    let returned (e : DeliveryEntry) : DeliveryEntry :=
      if e.state = .sent then { e with state := .waiting }
      else if e.state = .sending ∧ e.mark = .none then { e with mark := .toReturn }
      else e
    (r.body = [0x50#8, b1] →
      (17 ≤ b1.toNat → exec .grant s = .next (s.replied r rest .badValue 1 [])) ∧
      (b1.toNat ≤ 16 →
        exec .grant s = .next (State.replied { s with delivery := { s.delivery with window := b1.toNat } } r rest .ok 0
          [b1, BitVec.ofNat 8 (queue.filter fun e => e.state ≠ .waiting).length]))) ∧
    (r.body = [0x51#8, b1, b2] →
      ((∀ e ∈ queue, ¬ (e.state = .sent ∧ e.number = word16Of b1 b2)) →
        exec .ack s = .next (s.replied r rest .badValue 1 [])) ∧
      ∀ before e behind, queue = before ++ e :: behind → e.state = .sent → e.number = word16Of b1 b2 →
        (∀ x ∈ before, ¬ (x.state = .sent ∧ x.number = word16Of b1 b2)) →
        exec .ack s = .next (State.replied
          { s with
            delivery := { s.delivery with queue := behind }
            store := s.store.leaveAll .delivery ((before ++ [e]).map DeliveryEntry.slot) }
          r rest .ok 0 [b1, b2, BitVec.ofNat 8 (before.length + 1), BitVec.ofNat 8 behind.length])) ∧
    (r.body = [0x52#8] →
      exec .resend s = .next (State.replied
        { s with delivery := { s.delivery with queue := queue.map returned } } r rest .ok 0
        [BitVec.ofNat 8 (queue.filter fun e => e.state = .sent).length,
          if ∃ e ∈ queue, e.state = .sending ∧ e.mark ≠ .toRemove then 0x01#8 else 0x00#8])) ∧
    (r.body = [0x53#8] →
      let removed := queue.filter fun e => e.state ≠ .sending
      let kept := queue.filter fun e => e.state = .sending
      exec .discardCaptures s = .next (State.replied
        { s with
          delivery := { s.delivery with queue := kept.map fun e => { e with mark := .toRemove } }
          store := s.store.leaveAll .delivery (removed.map DeliveryEntry.slot) }
        r rest .ok 0 [BitVec.ofNat 8 removed.length, if kept = [] then 0x00#8 else 0x01#8]))
end

