-- ==== Sys2Proof/Laws/State.lean ====
section
/-! SUPPORT. Small lemmas of the state: what each update leaves of each field, true by `rfl`, and records by number. Proofs cite
them instead of unfolding an update. -/

namespace Sys2Proof.Machine

/-! ## Records by number -/

/-- Reading a vector after a write at the same place. -/
theorem get_set_same {α : Type} {n : Nat} (v : Vector α n) (i : Fin n) (x : α) : (v.set i x).get i = x := by
  change (v.set i x)[i.val] = x
  simp

/-- Reading a vector after a write at another place. -/
theorem get_set_other {α : Type} {n : Nat} (v : Vector α n) {i j : Fin n} (x : α) (h : j ≠ i) :
    (v.set i x).get j = v.get j := by
  have h' : i.val ≠ j.val := fun e => h (Fin.ext e.symm)
  change (v.set i x)[j.val] = v[j.val]
  simp [h']

/-- Writing back what stands there changes nothing. -/
theorem set_get_self {α : Type} {n : Nat} (v : Vector α n) (i : Fin n) : v.set i (v.get i) = v := by
  change v.set i v[i.val] = v
  simp

/-- A later write at the same place replaces an earlier one. -/
theorem set_set_same {α : Type} {n : Nat} (v : Vector α n) (i : Fin n) (x y : α) :
    (v.set i x).set i y = v.set i y := by
  simp

theorem State.ingress_modIngress_same (s : State) (i : IngressNo) (f : Ingress → Ingress) :
    (s.modIngress i f).ingress i = f (s.ingress i) := get_set_same _ _ _

theorem State.ingress_modIngress_other (s : State) {i j : IngressNo} (f : Ingress → Ingress) (h : j ≠ i) :
    (s.modIngress i f).ingress j = s.ingress j := get_set_other _ _ h

theorem State.tap_modTap_same (s : State) (t : TapNo) (f : Tap → Tap) : (s.modTap t f).tap t = f (s.tap t) :=
  get_set_same _ _ _

theorem State.tap_modTap_other (s : State) {t k : TapNo} (f : Tap → Tap) (h : k ≠ t) :
    (s.modTap t f).tap k = s.tap k := get_set_other _ _ h

theorem State.entry_modEntry_same (s : State) (e : EntryNo) (f : HostEntry → HostEntry) :
    (s.modEntry e f).entry e = f (s.entry e) := get_set_same _ _ _

theorem State.entry_modEntry_other (s : State) {e k : EntryNo} (f : HostEntry → HostEntry) (h : k ≠ e) :
    (s.modEntry e f).entry k = s.entry k := get_set_other _ _ h

theorem Store.slot_setSlot_same (st : Store) (n : SlotNo) (x : Slot) : (st.setSlot n x).slot n = x :=
  get_set_same _ _ _

theorem Store.slot_setSlot_other (st : Store) {n m : SlotNo} (x : Slot) (h : m ≠ n) :
    (st.setSlot n x).slot m = st.slot m := get_set_other _ _ h


/-! ## modIngress -/

@[simp] theorem State.modIngress_part (s : State) (i : IngressNo) (f : Ingress → Ingress) :
    (s.modIngress i f).part = s.part := rfl
@[simp] theorem State.modIngress_stop (s : State) (i : IngressNo) (f : Ingress → Ingress) :
    (s.modIngress i f).stop = s.stop := rfl
@[simp] theorem State.modIngress_stamp (s : State) (i : IngressNo) (f : Ingress → Ingress) :
    (s.modIngress i f).stamp = s.stamp := rfl
@[simp] theorem State.modIngress_store (s : State) (i : IngressNo) (f : Ingress → Ingress) :
    (s.modIngress i f).store = s.store := rfl
@[simp] theorem State.modIngress_taps (s : State) (i : IngressNo) (f : Ingress → Ingress) :
    (s.modIngress i f).taps = s.taps := rfl
@[simp] theorem State.modIngress_trunk (s : State) (i : IngressNo) (f : Ingress → Ingress) :
    (s.modIngress i f).trunk = s.trunk := rfl
@[simp] theorem State.modIngress_relay (s : State) (i : IngressNo) (f : Ingress → Ingress) :
    (s.modIngress i f).relay = s.relay := rfl
@[simp] theorem State.modIngress_entries (s : State) (i : IngressNo) (f : Ingress → Ingress) :
    (s.modIngress i f).entries = s.entries := rfl
@[simp] theorem State.modIngress_delivery (s : State) (i : IngressNo) (f : Ingress → Ingress) :
    (s.modIngress i f).delivery = s.delivery := rfl
@[simp] theorem State.modIngress_events (s : State) (i : IngressNo) (f : Ingress → Ingress) :
    (s.modIngress i f).events = s.events := rfl
@[simp] theorem State.modIngress_txDone (s : State) (i : IngressNo) (f : Ingress → Ingress) :
    (s.modIngress i f).txDone = s.txDone := rfl
@[simp] theorem State.modIngress_line (s : State) (i : IngressNo) (f : Ingress → Ingress) :
    (s.modIngress i f).line = s.line := rfl
@[simp] theorem State.modIngress_engine (s : State) (i : IngressNo) (f : Ingress → Ingress) :
    (s.modIngress i f).engine = s.engine := rfl
@[simp] theorem State.modIngress_pending (s : State) (i : IngressNo) (f : Ingress → Ingress) :
    (s.modIngress i f).pending = s.pending := rfl

/-! ## modTap -/

@[simp] theorem State.modTap_part (s : State) (t : TapNo) (f : Tap → Tap) : (s.modTap t f).part = s.part := rfl
@[simp] theorem State.modTap_stop (s : State) (t : TapNo) (f : Tap → Tap) : (s.modTap t f).stop = s.stop := rfl
@[simp] theorem State.modTap_stamp (s : State) (t : TapNo) (f : Tap → Tap) : (s.modTap t f).stamp = s.stamp := rfl
@[simp] theorem State.modTap_store (s : State) (t : TapNo) (f : Tap → Tap) : (s.modTap t f).store = s.store := rfl
@[simp] theorem State.modTap_ingresses (s : State) (t : TapNo) (f : Tap → Tap) :
    (s.modTap t f).ingresses = s.ingresses := rfl
@[simp] theorem State.modTap_trunk (s : State) (t : TapNo) (f : Tap → Tap) : (s.modTap t f).trunk = s.trunk := rfl
@[simp] theorem State.modTap_relay (s : State) (t : TapNo) (f : Tap → Tap) : (s.modTap t f).relay = s.relay := rfl
@[simp] theorem State.modTap_entries (s : State) (t : TapNo) (f : Tap → Tap) : (s.modTap t f).entries = s.entries := rfl
@[simp] theorem State.modTap_delivery (s : State) (t : TapNo) (f : Tap → Tap) : (s.modTap t f).delivery = s.delivery := rfl
@[simp] theorem State.modTap_events (s : State) (t : TapNo) (f : Tap → Tap) : (s.modTap t f).events = s.events := rfl
@[simp] theorem State.modTap_txDone (s : State) (t : TapNo) (f : Tap → Tap) : (s.modTap t f).txDone = s.txDone := rfl
@[simp] theorem State.modTap_line (s : State) (t : TapNo) (f : Tap → Tap) : (s.modTap t f).line = s.line := rfl
@[simp] theorem State.modTap_engine (s : State) (t : TapNo) (f : Tap → Tap) : (s.modTap t f).engine = s.engine := rfl
@[simp] theorem State.modTap_pending (s : State) (t : TapNo) (f : Tap → Tap) : (s.modTap t f).pending = s.pending := rfl

/-! ## modEntry -/

@[simp] theorem State.modEntry_part (s : State) (e : EntryNo) (f : HostEntry → HostEntry) :
    (s.modEntry e f).part = s.part := rfl
@[simp] theorem State.modEntry_stop (s : State) (e : EntryNo) (f : HostEntry → HostEntry) :
    (s.modEntry e f).stop = s.stop := rfl
@[simp] theorem State.modEntry_stamp (s : State) (e : EntryNo) (f : HostEntry → HostEntry) :
    (s.modEntry e f).stamp = s.stamp := rfl
@[simp] theorem State.modEntry_store (s : State) (e : EntryNo) (f : HostEntry → HostEntry) :
    (s.modEntry e f).store = s.store := rfl
@[simp] theorem State.modEntry_ingresses (s : State) (e : EntryNo) (f : HostEntry → HostEntry) :
    (s.modEntry e f).ingresses = s.ingresses := rfl
@[simp] theorem State.modEntry_taps (s : State) (e : EntryNo) (f : HostEntry → HostEntry) :
    (s.modEntry e f).taps = s.taps := rfl
@[simp] theorem State.modEntry_trunk (s : State) (e : EntryNo) (f : HostEntry → HostEntry) :
    (s.modEntry e f).trunk = s.trunk := rfl
@[simp] theorem State.modEntry_relay (s : State) (e : EntryNo) (f : HostEntry → HostEntry) :
    (s.modEntry e f).relay = s.relay := rfl
@[simp] theorem State.modEntry_delivery (s : State) (e : EntryNo) (f : HostEntry → HostEntry) :
    (s.modEntry e f).delivery = s.delivery := rfl
@[simp] theorem State.modEntry_events (s : State) (e : EntryNo) (f : HostEntry → HostEntry) :
    (s.modEntry e f).events = s.events := rfl
@[simp] theorem State.modEntry_txDone (s : State) (e : EntryNo) (f : HostEntry → HostEntry) :
    (s.modEntry e f).txDone = s.txDone := rfl
@[simp] theorem State.modEntry_line (s : State) (e : EntryNo) (f : HostEntry → HostEntry) :
    (s.modEntry e f).line = s.line := rfl
@[simp] theorem State.modEntry_engine (s : State) (e : EntryNo) (f : HostEntry → HostEntry) :
    (s.modEntry e f).engine = s.engine := rfl
@[simp] theorem State.modEntry_pending (s : State) (e : EntryNo) (f : HostEntry → HostEntry) :
    (s.modEntry e f).pending = s.pending := rfl

/-! ## storeEvent -/

@[simp] theorem State.storeEvent_part (s : State) (info : EventInfo) : (s.storeEvent info).part = s.part := rfl
@[simp] theorem State.storeEvent_stop (s : State) (info : EventInfo) : (s.storeEvent info).stop = s.stop := rfl
@[simp] theorem State.storeEvent_stamp (s : State) (info : EventInfo) : (s.storeEvent info).stamp = s.stamp := rfl
@[simp] theorem State.storeEvent_store (s : State) (info : EventInfo) : (s.storeEvent info).store = s.store := rfl
@[simp] theorem State.storeEvent_ingresses (s : State) (info : EventInfo) :
    (s.storeEvent info).ingresses = s.ingresses := rfl
@[simp] theorem State.storeEvent_taps (s : State) (info : EventInfo) : (s.storeEvent info).taps = s.taps := rfl
@[simp] theorem State.storeEvent_trunk (s : State) (info : EventInfo) : (s.storeEvent info).trunk = s.trunk := rfl
@[simp] theorem State.storeEvent_relay (s : State) (info : EventInfo) : (s.storeEvent info).relay = s.relay := rfl
@[simp] theorem State.storeEvent_entries (s : State) (info : EventInfo) : (s.storeEvent info).entries = s.entries := rfl
@[simp] theorem State.storeEvent_delivery (s : State) (info : EventInfo) : (s.storeEvent info).delivery = s.delivery := rfl
@[simp] theorem State.storeEvent_txDone (s : State) (info : EventInfo) : (s.storeEvent info).txDone = s.txDone := rfl
@[simp] theorem State.storeEvent_line (s : State) (info : EventInfo) : (s.storeEvent info).line = s.line := rfl
@[simp] theorem State.storeEvent_engine (s : State) (info : EventInfo) : (s.storeEvent info).engine = s.engine := rfl
@[simp] theorem State.storeEvent_pending (s : State) (info : EventInfo) : (s.storeEvent info).pending = s.pending := rfl

/-! ## countDrop -/

@[simp] theorem State.countDrop_part (s : State) (i : IngressNo) (reason : DropReason) :
    (s.countDrop i reason).part = s.part := rfl
@[simp] theorem State.countDrop_stop (s : State) (i : IngressNo) (reason : DropReason) :
    (s.countDrop i reason).stop = s.stop := rfl
@[simp] theorem State.countDrop_stamp (s : State) (i : IngressNo) (reason : DropReason) :
    (s.countDrop i reason).stamp = s.stamp := rfl
@[simp] theorem State.countDrop_store (s : State) (i : IngressNo) (reason : DropReason) :
    (s.countDrop i reason).store = s.store := rfl
@[simp] theorem State.countDrop_taps (s : State) (i : IngressNo) (reason : DropReason) :
    (s.countDrop i reason).taps = s.taps := rfl
@[simp] theorem State.countDrop_trunk (s : State) (i : IngressNo) (reason : DropReason) :
    (s.countDrop i reason).trunk = s.trunk := rfl
@[simp] theorem State.countDrop_relay (s : State) (i : IngressNo) (reason : DropReason) :
    (s.countDrop i reason).relay = s.relay := rfl
@[simp] theorem State.countDrop_entries (s : State) (i : IngressNo) (reason : DropReason) :
    (s.countDrop i reason).entries = s.entries := rfl
@[simp] theorem State.countDrop_delivery (s : State) (i : IngressNo) (reason : DropReason) :
    (s.countDrop i reason).delivery = s.delivery := rfl
@[simp] theorem State.countDrop_txDone (s : State) (i : IngressNo) (reason : DropReason) :
    (s.countDrop i reason).txDone = s.txDone := rfl
@[simp] theorem State.countDrop_line (s : State) (i : IngressNo) (reason : DropReason) :
    (s.countDrop i reason).line = s.line := rfl
@[simp] theorem State.countDrop_engine (s : State) (i : IngressNo) (reason : DropReason) :
    (s.countDrop i reason).engine = s.engine := rfl
@[simp] theorem State.countDrop_pending (s : State) (i : IngressNo) (reason : DropReason) :
    (s.countDrop i reason).pending = s.pending := rfl

/-! ## countWindowDrop -/

@[simp] theorem State.countWindowDrop_part (s : State) (i : IngressNo) : (s.countWindowDrop i).part = s.part := rfl
@[simp] theorem State.countWindowDrop_stop (s : State) (i : IngressNo) : (s.countWindowDrop i).stop = s.stop := rfl
@[simp] theorem State.countWindowDrop_stamp (s : State) (i : IngressNo) : (s.countWindowDrop i).stamp = s.stamp := rfl
@[simp] theorem State.countWindowDrop_store (s : State) (i : IngressNo) : (s.countWindowDrop i).store = s.store := rfl
@[simp] theorem State.countWindowDrop_taps (s : State) (i : IngressNo) : (s.countWindowDrop i).taps = s.taps := rfl
@[simp] theorem State.countWindowDrop_trunk (s : State) (i : IngressNo) : (s.countWindowDrop i).trunk = s.trunk := rfl
@[simp] theorem State.countWindowDrop_relay (s : State) (i : IngressNo) : (s.countWindowDrop i).relay = s.relay := rfl
@[simp] theorem State.countWindowDrop_entries (s : State) (i : IngressNo) : (s.countWindowDrop i).entries = s.entries := rfl
@[simp] theorem State.countWindowDrop_delivery (s : State) (i : IngressNo) :
    (s.countWindowDrop i).delivery = s.delivery := rfl
@[simp] theorem State.countWindowDrop_events (s : State) (i : IngressNo) : (s.countWindowDrop i).events = s.events := rfl
@[simp] theorem State.countWindowDrop_txDone (s : State) (i : IngressNo) : (s.countWindowDrop i).txDone = s.txDone := rfl
@[simp] theorem State.countWindowDrop_line (s : State) (i : IngressNo) : (s.countWindowDrop i).line = s.line := rfl
@[simp] theorem State.countWindowDrop_engine (s : State) (i : IngressNo) : (s.countWindowDrop i).engine = s.engine := rfl
@[simp] theorem State.countWindowDrop_pending (s : State) (i : IngressNo) : (s.countWindowDrop i).pending = s.pending := rfl

/-! ## queueReply -/

@[simp] theorem State.queueReply_part (s : State) (r : Reply) : (s.queueReply r).part = s.part := rfl
@[simp] theorem State.queueReply_stop (s : State) (r : Reply) : (s.queueReply r).stop = s.stop := rfl
@[simp] theorem State.queueReply_stamp (s : State) (r : Reply) : (s.queueReply r).stamp = s.stamp := rfl
@[simp] theorem State.queueReply_store (s : State) (r : Reply) : (s.queueReply r).store = s.store := rfl
@[simp] theorem State.queueReply_ingresses (s : State) (r : Reply) : (s.queueReply r).ingresses = s.ingresses := rfl
@[simp] theorem State.queueReply_taps (s : State) (r : Reply) : (s.queueReply r).taps = s.taps := rfl
@[simp] theorem State.queueReply_trunk (s : State) (r : Reply) : (s.queueReply r).trunk = s.trunk := rfl
@[simp] theorem State.queueReply_relay (s : State) (r : Reply) : (s.queueReply r).relay = s.relay := rfl
@[simp] theorem State.queueReply_entries (s : State) (r : Reply) : (s.queueReply r).entries = s.entries := rfl
@[simp] theorem State.queueReply_delivery (s : State) (r : Reply) : (s.queueReply r).delivery = s.delivery := rfl
@[simp] theorem State.queueReply_events (s : State) (r : Reply) : (s.queueReply r).events = s.events := rfl
@[simp] theorem State.queueReply_txDone (s : State) (r : Reply) : (s.queueReply r).txDone = s.txDone := rfl
@[simp] theorem State.queueReply_engine (s : State) (r : Reply) : (s.queueReply r).engine = s.engine := rfl
@[simp] theorem State.queueReply_pending (s : State) (r : Reply) : (s.queueReply r).pending = s.pending := rfl

/-! ## park -/

@[simp] theorem State.park_part (s : State) (r : Request) (subject : ParkedSubject) :
    (s.park r subject).part = s.part := rfl
@[simp] theorem State.park_stop (s : State) (r : Request) (subject : ParkedSubject) :
    (s.park r subject).stop = s.stop := rfl
@[simp] theorem State.park_stamp (s : State) (r : Request) (subject : ParkedSubject) :
    (s.park r subject).stamp = s.stamp := rfl
@[simp] theorem State.park_store (s : State) (r : Request) (subject : ParkedSubject) :
    (s.park r subject).store = s.store := rfl
@[simp] theorem State.park_ingresses (s : State) (r : Request) (subject : ParkedSubject) :
    (s.park r subject).ingresses = s.ingresses := rfl
@[simp] theorem State.park_taps (s : State) (r : Request) (subject : ParkedSubject) :
    (s.park r subject).taps = s.taps := rfl
@[simp] theorem State.park_trunk (s : State) (r : Request) (subject : ParkedSubject) :
    (s.park r subject).trunk = s.trunk := rfl
@[simp] theorem State.park_relay (s : State) (r : Request) (subject : ParkedSubject) :
    (s.park r subject).relay = s.relay := rfl
@[simp] theorem State.park_entries (s : State) (r : Request) (subject : ParkedSubject) :
    (s.park r subject).entries = s.entries := rfl
@[simp] theorem State.park_delivery (s : State) (r : Request) (subject : ParkedSubject) :
    (s.park r subject).delivery = s.delivery := rfl
@[simp] theorem State.park_events (s : State) (r : Request) (subject : ParkedSubject) :
    (s.park r subject).events = s.events := rfl
@[simp] theorem State.park_txDone (s : State) (r : Request) (subject : ParkedSubject) :
    (s.park r subject).txDone = s.txDone := rfl
@[simp] theorem State.park_line (s : State) (r : Request) (subject : ParkedSubject) :
    (s.park r subject).line = s.line := rfl
@[simp] theorem State.park_pending (s : State) (r : Request) (subject : ParkedSubject) :
    (s.park r subject).pending = s.pending := rfl

/-! ## entryDone -/

@[simp] theorem State.entryDone_part (s : State) (e : EntryNo) (o : EntryOutcome) : (s.entryDone e o).part = s.part := rfl
@[simp] theorem State.entryDone_stop (s : State) (e : EntryNo) (o : EntryOutcome) : (s.entryDone e o).stop = s.stop := rfl
@[simp] theorem State.entryDone_stamp (s : State) (e : EntryNo) (o : EntryOutcome) :
    (s.entryDone e o).stamp = s.stamp := rfl
@[simp] theorem State.entryDone_ingresses (s : State) (e : EntryNo) (o : EntryOutcome) :
    (s.entryDone e o).ingresses = s.ingresses := rfl
@[simp] theorem State.entryDone_taps (s : State) (e : EntryNo) (o : EntryOutcome) : (s.entryDone e o).taps = s.taps := rfl
@[simp] theorem State.entryDone_trunk (s : State) (e : EntryNo) (o : EntryOutcome) :
    (s.entryDone e o).trunk = s.trunk := rfl
@[simp] theorem State.entryDone_relay (s : State) (e : EntryNo) (o : EntryOutcome) :
    (s.entryDone e o).relay = s.relay := rfl
@[simp] theorem State.entryDone_delivery (s : State) (e : EntryNo) (o : EntryOutcome) :
    (s.entryDone e o).delivery = s.delivery := rfl
@[simp] theorem State.entryDone_events (s : State) (e : EntryNo) (o : EntryOutcome) :
    (s.entryDone e o).events = s.events := rfl
@[simp] theorem State.entryDone_line (s : State) (e : EntryNo) (o : EntryOutcome) : (s.entryDone e o).line = s.line := rfl
@[simp] theorem State.entryDone_engine (s : State) (e : EntryNo) (o : EntryOutcome) :
    (s.entryDone e o).engine = s.engine := rfl
@[simp] theorem State.entryDone_pending (s : State) (e : EntryNo) (o : EntryOutcome) :
    (s.entryDone e o).pending = s.pending := rfl

/-! ## changeTap -/

@[simp] theorem State.changeTap_part (s : State) (t : TapNo) (f : Tap → Tap) (c : TapChange) :
    (s.changeTap t f c).part = s.part := rfl
@[simp] theorem State.changeTap_stop (s : State) (t : TapNo) (f : Tap → Tap) (c : TapChange) :
    (s.changeTap t f c).stop = s.stop := rfl
@[simp] theorem State.changeTap_stamp (s : State) (t : TapNo) (f : Tap → Tap) (c : TapChange) :
    (s.changeTap t f c).stamp = s.stamp := rfl
@[simp] theorem State.changeTap_store (s : State) (t : TapNo) (f : Tap → Tap) (c : TapChange) :
    (s.changeTap t f c).store = s.store := rfl
@[simp] theorem State.changeTap_ingresses (s : State) (t : TapNo) (f : Tap → Tap) (c : TapChange) :
    (s.changeTap t f c).ingresses = s.ingresses := rfl
@[simp] theorem State.changeTap_trunk (s : State) (t : TapNo) (f : Tap → Tap) (c : TapChange) :
    (s.changeTap t f c).trunk = s.trunk := rfl
@[simp] theorem State.changeTap_relay (s : State) (t : TapNo) (f : Tap → Tap) (c : TapChange) :
    (s.changeTap t f c).relay = s.relay := rfl
@[simp] theorem State.changeTap_entries (s : State) (t : TapNo) (f : Tap → Tap) (c : TapChange) :
    (s.changeTap t f c).entries = s.entries := rfl
@[simp] theorem State.changeTap_delivery (s : State) (t : TapNo) (f : Tap → Tap) (c : TapChange) :
    (s.changeTap t f c).delivery = s.delivery := rfl
@[simp] theorem State.changeTap_txDone (s : State) (t : TapNo) (f : Tap → Tap) (c : TapChange) :
    (s.changeTap t f c).txDone = s.txDone := rfl
@[simp] theorem State.changeTap_line (s : State) (t : TapNo) (f : Tap → Tap) (c : TapChange) :
    (s.changeTap t f c).line = s.line := rfl
@[simp] theorem State.changeTap_engine (s : State) (t : TapNo) (f : Tap → Tap) (c : TapChange) :
    (s.changeTap t f c).engine = s.engine := rfl
@[simp] theorem State.changeTap_pending (s : State) (t : TapNo) (f : Tap → Tap) (c : TapChange) :
    (s.changeTap t f c).pending = s.pending := rfl

/-! ## endSession -/

@[simp] theorem State.endSession_part (s : State) : (s.endSession).part = s.part := rfl
@[simp] theorem State.endSession_stop (s : State) : (s.endSession).stop = s.stop := rfl
@[simp] theorem State.endSession_stamp (s : State) : (s.endSession).stamp = s.stamp := rfl
@[simp] theorem State.endSession_store (s : State) : (s.endSession).store = s.store := rfl
@[simp] theorem State.endSession_ingresses (s : State) : (s.endSession).ingresses = s.ingresses := rfl
@[simp] theorem State.endSession_taps (s : State) : (s.endSession).taps = s.taps := rfl
@[simp] theorem State.endSession_trunk (s : State) : (s.endSession).trunk = s.trunk := rfl
@[simp] theorem State.endSession_relay (s : State) : (s.endSession).relay = s.relay := rfl
@[simp] theorem State.endSession_entries (s : State) : (s.endSession).entries = s.entries := rfl
@[simp] theorem State.endSession_events (s : State) : (s.endSession).events = s.events := rfl
@[simp] theorem State.endSession_txDone (s : State) : (s.endSession).txDone = s.txDone := rfl
@[simp] theorem State.endSession_line (s : State) : (s.endSession).line = s.line := rfl
@[simp] theorem State.endSession_pending (s : State) : (s.endSession).pending = s.pending := rfl

/-! ## raiseHeadAttempts -/

@[simp] theorem State.raiseHeadAttempts_part (s : State) : (s.raiseHeadAttempts).part = s.part := rfl
@[simp] theorem State.raiseHeadAttempts_stop (s : State) : (s.raiseHeadAttempts).stop = s.stop := rfl
@[simp] theorem State.raiseHeadAttempts_stamp (s : State) : (s.raiseHeadAttempts).stamp = s.stamp := rfl
@[simp] theorem State.raiseHeadAttempts_store (s : State) : (s.raiseHeadAttempts).store = s.store := rfl
@[simp] theorem State.raiseHeadAttempts_ingresses (s : State) : (s.raiseHeadAttempts).ingresses = s.ingresses := rfl
@[simp] theorem State.raiseHeadAttempts_taps (s : State) : (s.raiseHeadAttempts).taps = s.taps := rfl
@[simp] theorem State.raiseHeadAttempts_trunk (s : State) : (s.raiseHeadAttempts).trunk = s.trunk := rfl
@[simp] theorem State.raiseHeadAttempts_entries (s : State) : (s.raiseHeadAttempts).entries = s.entries := rfl
@[simp] theorem State.raiseHeadAttempts_delivery (s : State) : (s.raiseHeadAttempts).delivery = s.delivery := rfl
@[simp] theorem State.raiseHeadAttempts_events (s : State) : (s.raiseHeadAttempts).events = s.events := rfl
@[simp] theorem State.raiseHeadAttempts_txDone (s : State) : (s.raiseHeadAttempts).txDone = s.txDone := rfl
@[simp] theorem State.raiseHeadAttempts_line (s : State) : (s.raiseHeadAttempts).line = s.line := rfl
@[simp] theorem State.raiseHeadAttempts_engine (s : State) : (s.raiseHeadAttempts).engine = s.engine := rfl
@[simp] theorem State.raiseHeadAttempts_pending (s : State) : (s.raiseHeadAttempts).pending = s.pending := rfl

/-! ## endAttempt -/

@[simp] theorem State.endAttempt_part (s : State) : (s.endAttempt).part = s.part := rfl
@[simp] theorem State.endAttempt_stop (s : State) : (s.endAttempt).stop = s.stop := rfl
@[simp] theorem State.endAttempt_stamp (s : State) : (s.endAttempt).stamp = s.stamp := rfl
@[simp] theorem State.endAttempt_store (s : State) : (s.endAttempt).store = s.store := rfl
@[simp] theorem State.endAttempt_ingresses (s : State) : (s.endAttempt).ingresses = s.ingresses := rfl
@[simp] theorem State.endAttempt_taps (s : State) : (s.endAttempt).taps = s.taps := rfl
@[simp] theorem State.endAttempt_relay (s : State) : (s.endAttempt).relay = s.relay := rfl
@[simp] theorem State.endAttempt_entries (s : State) : (s.endAttempt).entries = s.entries := rfl
@[simp] theorem State.endAttempt_delivery (s : State) : (s.endAttempt).delivery = s.delivery := rfl
@[simp] theorem State.endAttempt_events (s : State) : (s.endAttempt).events = s.events := rfl
@[simp] theorem State.endAttempt_txDone (s : State) : (s.endAttempt).txDone = s.txDone := rfl
@[simp] theorem State.endAttempt_line (s : State) : (s.endAttempt).line = s.line := rfl
@[simp] theorem State.endAttempt_engine (s : State) : (s.endAttempt).engine = s.engine := rfl
@[simp] theorem State.endAttempt_pending (s : State) : (s.endAttempt).pending = s.pending := rfl
@[simp] theorem State.endAttempt_trunk (s : State) :
    (s.endAttempt).trunk = { s.trunk with inFlight := none, sending := [], idleCount := 0 } := rfl

/-! ## recordOutcome -/

@[simp] theorem State.recordOutcome_part (s : State) (m : HealthMark) : (s.recordOutcome m).part = s.part := rfl
@[simp] theorem State.recordOutcome_stop (s : State) (m : HealthMark) : (s.recordOutcome m).stop = s.stop := rfl
@[simp] theorem State.recordOutcome_stamp (s : State) (m : HealthMark) : (s.recordOutcome m).stamp = s.stamp := rfl
@[simp] theorem State.recordOutcome_store (s : State) (m : HealthMark) : (s.recordOutcome m).store = s.store := rfl
@[simp] theorem State.recordOutcome_ingresses (s : State) (m : HealthMark) :
    (s.recordOutcome m).ingresses = s.ingresses := rfl
@[simp] theorem State.recordOutcome_taps (s : State) (m : HealthMark) : (s.recordOutcome m).taps = s.taps := rfl
@[simp] theorem State.recordOutcome_relay (s : State) (m : HealthMark) : (s.recordOutcome m).relay = s.relay := rfl
@[simp] theorem State.recordOutcome_entries (s : State) (m : HealthMark) : (s.recordOutcome m).entries = s.entries := rfl
@[simp] theorem State.recordOutcome_delivery (s : State) (m : HealthMark) : (s.recordOutcome m).delivery = s.delivery := rfl
@[simp] theorem State.recordOutcome_txDone (s : State) (m : HealthMark) : (s.recordOutcome m).txDone = s.txDone := rfl
@[simp] theorem State.recordOutcome_line (s : State) (m : HealthMark) : (s.recordOutcome m).line = s.line := rfl
@[simp] theorem State.recordOutcome_engine (s : State) (m : HealthMark) : (s.recordOutcome m).engine = s.engine := rfl
@[simp] theorem State.recordOutcome_pending (s : State) (m : HealthMark) : (s.recordOutcome m).pending = s.pending := rfl

/-! ## startAttempt -/

@[simp] theorem State.startAttempt_part (s : State) (c : Candidate) : (s.startAttempt c).part = s.part := rfl
@[simp] theorem State.startAttempt_stop (s : State) (c : Candidate) : (s.startAttempt c).stop = s.stop := rfl
@[simp] theorem State.startAttempt_stamp (s : State) (c : Candidate) : (s.startAttempt c).stamp = s.stamp := rfl
@[simp] theorem State.startAttempt_store (s : State) (c : Candidate) : (s.startAttempt c).store = s.store := rfl
@[simp] theorem State.startAttempt_ingresses (s : State) (c : Candidate) : (s.startAttempt c).ingresses = s.ingresses := rfl
@[simp] theorem State.startAttempt_taps (s : State) (c : Candidate) : (s.startAttempt c).taps = s.taps := rfl
@[simp] theorem State.startAttempt_delivery (s : State) (c : Candidate) : (s.startAttempt c).delivery = s.delivery := rfl
@[simp] theorem State.startAttempt_events (s : State) (c : Candidate) : (s.startAttempt c).events = s.events := rfl
@[simp] theorem State.startAttempt_txDone (s : State) (c : Candidate) : (s.startAttempt c).txDone = s.txDone := rfl
@[simp] theorem State.startAttempt_line (s : State) (c : Candidate) : (s.startAttempt c).line = s.line := rfl
@[simp] theorem State.startAttempt_engine (s : State) (c : Candidate) : (s.startAttempt c).engine = s.engine := rfl
@[simp] theorem State.startAttempt_pending (s : State) (c : Candidate) : (s.startAttempt c).pending = s.pending := rfl

/-! ## transmit -/

@[simp] theorem State.transmit_part (s : State) (k : MessageClass) (bytes : List Byte) :
    (s.transmit k bytes).part = s.part := rfl
@[simp] theorem State.transmit_stop (s : State) (k : MessageClass) (bytes : List Byte) :
    (s.transmit k bytes).stop = s.stop := rfl
@[simp] theorem State.transmit_stamp (s : State) (k : MessageClass) (bytes : List Byte) :
    (s.transmit k bytes).stamp = s.stamp := rfl
@[simp] theorem State.transmit_store (s : State) (k : MessageClass) (bytes : List Byte) :
    (s.transmit k bytes).store = s.store := rfl
@[simp] theorem State.transmit_ingresses (s : State) (k : MessageClass) (bytes : List Byte) :
    (s.transmit k bytes).ingresses = s.ingresses := rfl
@[simp] theorem State.transmit_taps (s : State) (k : MessageClass) (bytes : List Byte) :
    (s.transmit k bytes).taps = s.taps := rfl
@[simp] theorem State.transmit_trunk (s : State) (k : MessageClass) (bytes : List Byte) :
    (s.transmit k bytes).trunk = s.trunk := rfl
@[simp] theorem State.transmit_relay (s : State) (k : MessageClass) (bytes : List Byte) :
    (s.transmit k bytes).relay = s.relay := rfl
@[simp] theorem State.transmit_entries (s : State) (k : MessageClass) (bytes : List Byte) :
    (s.transmit k bytes).entries = s.entries := rfl
@[simp] theorem State.transmit_delivery (s : State) (k : MessageClass) (bytes : List Byte) :
    (s.transmit k bytes).delivery = s.delivery := rfl
@[simp] theorem State.transmit_events (s : State) (k : MessageClass) (bytes : List Byte) :
    (s.transmit k bytes).events = s.events := rfl
@[simp] theorem State.transmit_txDone (s : State) (k : MessageClass) (bytes : List Byte) :
    (s.transmit k bytes).txDone = s.txDone := rfl
@[simp] theorem State.transmit_engine (s : State) (k : MessageClass) (bytes : List Byte) :
    (s.transmit k bytes).engine = s.engine := rfl
@[simp] theorem State.transmit_pending (s : State) (k : MessageClass) (bytes : List Byte) :
    (s.transmit k bytes).pending = s.pending := rfl

/-! ## freeTransmitter -/

@[simp] theorem State.freeTransmitter_part (s : State) : (s.freeTransmitter).part = s.part := rfl
@[simp] theorem State.freeTransmitter_stop (s : State) : (s.freeTransmitter).stop = s.stop := rfl
@[simp] theorem State.freeTransmitter_stamp (s : State) : (s.freeTransmitter).stamp = s.stamp := rfl
@[simp] theorem State.freeTransmitter_store (s : State) : (s.freeTransmitter).store = s.store := rfl
@[simp] theorem State.freeTransmitter_ingresses (s : State) : (s.freeTransmitter).ingresses = s.ingresses := rfl
@[simp] theorem State.freeTransmitter_taps (s : State) : (s.freeTransmitter).taps = s.taps := rfl
@[simp] theorem State.freeTransmitter_trunk (s : State) : (s.freeTransmitter).trunk = s.trunk := rfl
@[simp] theorem State.freeTransmitter_relay (s : State) : (s.freeTransmitter).relay = s.relay := rfl
@[simp] theorem State.freeTransmitter_entries (s : State) : (s.freeTransmitter).entries = s.entries := rfl
@[simp] theorem State.freeTransmitter_delivery (s : State) : (s.freeTransmitter).delivery = s.delivery := rfl
@[simp] theorem State.freeTransmitter_events (s : State) : (s.freeTransmitter).events = s.events := rfl
@[simp] theorem State.freeTransmitter_txDone (s : State) : (s.freeTransmitter).txDone = s.txDone := rfl
@[simp] theorem State.freeTransmitter_engine (s : State) : (s.freeTransmitter).engine = s.engine := rfl
@[simp] theorem State.freeTransmitter_pending (s : State) : (s.freeTransmitter).pending = s.pending := rfl

/-! ## replied -/

@[simp] theorem State.replied_part (s : State) (r : Request) (rest : List Request) (x : Status) (d : Byte) (result : List Byte) :
    (s.replied r rest x d result).part = s.part := rfl
@[simp] theorem State.replied_stop (s : State) (r : Request) (rest : List Request) (x : Status) (d : Byte) (result : List Byte) :
    (s.replied r rest x d result).stop = s.stop := rfl
@[simp] theorem State.replied_stamp (s : State) (r : Request) (rest : List Request) (x : Status) (d : Byte) (result : List Byte) :
    (s.replied r rest x d result).stamp = s.stamp := rfl
@[simp] theorem State.replied_store (s : State) (r : Request) (rest : List Request) (x : Status) (d : Byte) (result : List Byte) :
    (s.replied r rest x d result).store = s.store := rfl
@[simp] theorem State.replied_ingresses (s : State) (r : Request) (rest : List Request) (x : Status) (d : Byte) (result : List Byte) :
    (s.replied r rest x d result).ingresses = s.ingresses := rfl
@[simp] theorem State.replied_taps (s : State) (r : Request) (rest : List Request) (x : Status) (d : Byte) (result : List Byte) :
    (s.replied r rest x d result).taps = s.taps := rfl
@[simp] theorem State.replied_trunk (s : State) (r : Request) (rest : List Request) (x : Status) (d : Byte) (result : List Byte) :
    (s.replied r rest x d result).trunk = s.trunk := rfl
@[simp] theorem State.replied_relay (s : State) (r : Request) (rest : List Request) (x : Status) (d : Byte) (result : List Byte) :
    (s.replied r rest x d result).relay = s.relay := rfl
@[simp] theorem State.replied_entries (s : State) (r : Request) (rest : List Request) (x : Status) (d : Byte) (result : List Byte) :
    (s.replied r rest x d result).entries = s.entries := rfl
@[simp] theorem State.replied_delivery (s : State) (r : Request) (rest : List Request) (x : Status) (d : Byte) (result : List Byte) :
    (s.replied r rest x d result).delivery = s.delivery := rfl
@[simp] theorem State.replied_events (s : State) (r : Request) (rest : List Request) (x : Status) (d : Byte) (result : List Byte) :
    (s.replied r rest x d result).events = s.events := rfl
@[simp] theorem State.replied_txDone (s : State) (r : Request) (rest : List Request) (x : Status) (d : Byte) (result : List Byte) :
    (s.replied r rest x d result).txDone = s.txDone := rfl
@[simp] theorem State.replied_pending (s : State) (r : Request) (rest : List Request) (x : Status) (d : Byte) (result : List Byte) :
    (s.replied r rest x d result).pending = s.pending := rfl

/-! ## parkedNow -/

@[simp] theorem State.parkedNow_part (s : State) (r : Request) (rest : List Request) (subject : ParkedSubject) :
    (s.parkedNow r rest subject).part = s.part := rfl
@[simp] theorem State.parkedNow_stop (s : State) (r : Request) (rest : List Request) (subject : ParkedSubject) :
    (s.parkedNow r rest subject).stop = s.stop := rfl
@[simp] theorem State.parkedNow_stamp (s : State) (r : Request) (rest : List Request) (subject : ParkedSubject) :
    (s.parkedNow r rest subject).stamp = s.stamp := rfl
@[simp] theorem State.parkedNow_store (s : State) (r : Request) (rest : List Request) (subject : ParkedSubject) :
    (s.parkedNow r rest subject).store = s.store := rfl
@[simp] theorem State.parkedNow_ingresses (s : State) (r : Request) (rest : List Request) (subject : ParkedSubject) :
    (s.parkedNow r rest subject).ingresses = s.ingresses := rfl
@[simp] theorem State.parkedNow_taps (s : State) (r : Request) (rest : List Request) (subject : ParkedSubject) :
    (s.parkedNow r rest subject).taps = s.taps := rfl
@[simp] theorem State.parkedNow_trunk (s : State) (r : Request) (rest : List Request) (subject : ParkedSubject) :
    (s.parkedNow r rest subject).trunk = s.trunk := rfl
@[simp] theorem State.parkedNow_relay (s : State) (r : Request) (rest : List Request) (subject : ParkedSubject) :
    (s.parkedNow r rest subject).relay = s.relay := rfl
@[simp] theorem State.parkedNow_entries (s : State) (r : Request) (rest : List Request) (subject : ParkedSubject) :
    (s.parkedNow r rest subject).entries = s.entries := rfl
@[simp] theorem State.parkedNow_delivery (s : State) (r : Request) (rest : List Request) (subject : ParkedSubject) :
    (s.parkedNow r rest subject).delivery = s.delivery := rfl
@[simp] theorem State.parkedNow_events (s : State) (r : Request) (rest : List Request) (subject : ParkedSubject) :
    (s.parkedNow r rest subject).events = s.events := rfl
@[simp] theorem State.parkedNow_txDone (s : State) (r : Request) (rest : List Request) (subject : ParkedSubject) :
    (s.parkedNow r rest subject).txDone = s.txDone := rfl
@[simp] theorem State.parkedNow_line (s : State) (r : Request) (rest : List Request) (subject : ParkedSubject) :
    (s.parkedNow r rest subject).line = s.line := rfl
@[simp] theorem State.parkedNow_pending (s : State) (r : Request) (rest : List Request) (subject : ParkedSubject) :
    (s.parkedNow r rest subject).pending = s.pending := rfl

/-! ## Reads by number through an update that does not write there -/

@[simp] theorem State.tap_modIngress (s : State) (i : IngressNo) (f : Ingress → Ingress) (u : TapNo) :
    (s.modIngress i f).tap u = s.tap u := rfl
@[simp] theorem State.entry_modIngress (s : State) (i : IngressNo) (f : Ingress → Ingress) (n : EntryNo) :
    (s.modIngress i f).entry n = s.entry n := rfl
@[simp] theorem State.ingress_modTap (s : State) (t : TapNo) (f : Tap → Tap) (j : IngressNo) :
    (s.modTap t f).ingress j = s.ingress j := rfl
@[simp] theorem State.entry_modTap (s : State) (t : TapNo) (f : Tap → Tap) (n : EntryNo) :
    (s.modTap t f).entry n = s.entry n := rfl
@[simp] theorem State.ingress_modEntry (s : State) (e : EntryNo) (f : HostEntry → HostEntry) (j : IngressNo) :
    (s.modEntry e f).ingress j = s.ingress j := rfl
@[simp] theorem State.tap_modEntry (s : State) (e : EntryNo) (f : HostEntry → HostEntry) (u : TapNo) :
    (s.modEntry e f).tap u = s.tap u := rfl
@[simp] theorem State.ingress_storeEvent (s : State) (info : EventInfo) (j : IngressNo) :
    (s.storeEvent info).ingress j = s.ingress j := rfl
@[simp] theorem State.tap_storeEvent (s : State) (info : EventInfo) (u : TapNo) : (s.storeEvent info).tap u = s.tap u := rfl
@[simp] theorem State.entry_storeEvent (s : State) (info : EventInfo) (n : EntryNo) :
    (s.storeEvent info).entry n = s.entry n := rfl
@[simp] theorem State.tap_countDrop (s : State) (i : IngressNo) (reason : DropReason) (u : TapNo) :
    (s.countDrop i reason).tap u = s.tap u := rfl
@[simp] theorem State.entry_countDrop (s : State) (i : IngressNo) (reason : DropReason) (n : EntryNo) :
    (s.countDrop i reason).entry n = s.entry n := rfl
@[simp] theorem State.tap_countWindowDrop (s : State) (i : IngressNo) (u : TapNo) :
    (s.countWindowDrop i).tap u = s.tap u := rfl
@[simp] theorem State.entry_countWindowDrop (s : State) (i : IngressNo) (n : EntryNo) :
    (s.countWindowDrop i).entry n = s.entry n := rfl
@[simp] theorem State.ingress_queueReply (s : State) (r : Reply) (j : IngressNo) :
    (s.queueReply r).ingress j = s.ingress j := rfl
@[simp] theorem State.tap_queueReply (s : State) (r : Reply) (u : TapNo) : (s.queueReply r).tap u = s.tap u := rfl
@[simp] theorem State.entry_queueReply (s : State) (r : Reply) (n : EntryNo) : (s.queueReply r).entry n = s.entry n := rfl
@[simp] theorem State.ingress_park (s : State) (r : Request) (subject : ParkedSubject) (j : IngressNo) :
    (s.park r subject).ingress j = s.ingress j := rfl
@[simp] theorem State.tap_park (s : State) (r : Request) (subject : ParkedSubject) (u : TapNo) :
    (s.park r subject).tap u = s.tap u := rfl
@[simp] theorem State.entry_park (s : State) (r : Request) (subject : ParkedSubject) (n : EntryNo) :
    (s.park r subject).entry n = s.entry n := rfl
@[simp] theorem State.ingress_entryDone (s : State) (e : EntryNo) (o : EntryOutcome) (j : IngressNo) :
    (s.entryDone e o).ingress j = s.ingress j := rfl
@[simp] theorem State.tap_entryDone (s : State) (e : EntryNo) (o : EntryOutcome) (u : TapNo) :
    (s.entryDone e o).tap u = s.tap u := rfl
@[simp] theorem State.ingress_changeTap (s : State) (t : TapNo) (f : Tap → Tap) (c : TapChange) (j : IngressNo) :
    (s.changeTap t f c).ingress j = s.ingress j := rfl
@[simp] theorem State.entry_changeTap (s : State) (t : TapNo) (f : Tap → Tap) (c : TapChange) (n : EntryNo) :
    (s.changeTap t f c).entry n = s.entry n := rfl
@[simp] theorem State.ingress_endSession (s : State) (j : IngressNo) : (s.endSession).ingress j = s.ingress j := rfl
@[simp] theorem State.tap_endSession (s : State) (u : TapNo) : (s.endSession).tap u = s.tap u := rfl
@[simp] theorem State.entry_endSession (s : State) (n : EntryNo) : (s.endSession).entry n = s.entry n := rfl
@[simp] theorem State.ingress_raiseHeadAttempts (s : State) (j : IngressNo) :
    (s.raiseHeadAttempts).ingress j = s.ingress j := rfl
@[simp] theorem State.tap_raiseHeadAttempts (s : State) (u : TapNo) : (s.raiseHeadAttempts).tap u = s.tap u := rfl
@[simp] theorem State.entry_raiseHeadAttempts (s : State) (n : EntryNo) : (s.raiseHeadAttempts).entry n = s.entry n := rfl
@[simp] theorem State.ingress_endAttempt (s : State) (j : IngressNo) : (s.endAttempt).ingress j = s.ingress j := rfl
@[simp] theorem State.tap_endAttempt (s : State) (u : TapNo) : (s.endAttempt).tap u = s.tap u := rfl
@[simp] theorem State.entry_endAttempt (s : State) (n : EntryNo) : (s.endAttempt).entry n = s.entry n := rfl
@[simp] theorem State.ingress_recordOutcome (s : State) (m : HealthMark) (j : IngressNo) :
    (s.recordOutcome m).ingress j = s.ingress j := rfl
@[simp] theorem State.tap_recordOutcome (s : State) (m : HealthMark) (u : TapNo) :
    (s.recordOutcome m).tap u = s.tap u := rfl
@[simp] theorem State.entry_recordOutcome (s : State) (m : HealthMark) (n : EntryNo) :
    (s.recordOutcome m).entry n = s.entry n := rfl
@[simp] theorem State.ingress_startAttempt (s : State) (c : Candidate) (j : IngressNo) :
    (s.startAttempt c).ingress j = s.ingress j := rfl
@[simp] theorem State.tap_startAttempt (s : State) (c : Candidate) (u : TapNo) : (s.startAttempt c).tap u = s.tap u := rfl
@[simp] theorem State.ingress_transmit (s : State) (k : MessageClass) (bytes : List Byte) (j : IngressNo) :
    (s.transmit k bytes).ingress j = s.ingress j := rfl
@[simp] theorem State.tap_transmit (s : State) (k : MessageClass) (bytes : List Byte) (u : TapNo) :
    (s.transmit k bytes).tap u = s.tap u := rfl
@[simp] theorem State.entry_transmit (s : State) (k : MessageClass) (bytes : List Byte) (n : EntryNo) :
    (s.transmit k bytes).entry n = s.entry n := rfl
@[simp] theorem State.ingress_freeTransmitter (s : State) (j : IngressNo) :
    (s.freeTransmitter).ingress j = s.ingress j := rfl
@[simp] theorem State.tap_freeTransmitter (s : State) (u : TapNo) : (s.freeTransmitter).tap u = s.tap u := rfl
@[simp] theorem State.entry_freeTransmitter (s : State) (n : EntryNo) : (s.freeTransmitter).entry n = s.entry n := rfl
@[simp] theorem State.ingress_replied (s : State) (r : Request) (rest : List Request) (x : Status) (d : Byte) (result : List Byte) (j : IngressNo) :
    (s.replied r rest x d result).ingress j = s.ingress j := rfl
@[simp] theorem State.tap_replied (s : State) (r : Request) (rest : List Request) (x : Status) (d : Byte) (result : List Byte) (u : TapNo) :
    (s.replied r rest x d result).tap u = s.tap u := rfl
@[simp] theorem State.entry_replied (s : State) (r : Request) (rest : List Request) (x : Status) (d : Byte) (result : List Byte) (n : EntryNo) :
    (s.replied r rest x d result).entry n = s.entry n := rfl
@[simp] theorem State.ingress_parkedNow (s : State) (r : Request) (rest : List Request) (subject : ParkedSubject) (j : IngressNo) :
    (s.parkedNow r rest subject).ingress j = s.ingress j := rfl
@[simp] theorem State.tap_parkedNow (s : State) (r : Request) (rest : List Request) (subject : ParkedSubject) (u : TapNo) :
    (s.parkedNow r rest subject).tap u = s.tap u := rfl
@[simp] theorem State.entry_parkedNow (s : State) (r : Request) (rest : List Request) (subject : ParkedSubject) (n : EntryNo) :
    (s.parkedNow r rest subject).entry n = s.entry n := rfl

end Sys2Proof.Machine
end

