-- ==== Sys2Proof/Laws/Ops.lean ====
section
/-! SUPPORT. What each shared operation can do, said once: the lemmas that proofs about commands cite instead of unfolding an
operation. -/

namespace Sys2Proof.Machine

/-! ## Events -/

theorem EventQueue.push_room {q : EventQueue} (info : EventInfo) (stamp : Word32) (h : q.queue.length < 16) :
    q.push info stamp = ⟨q.queue ++ [⟨q.nextNumber, info, stamp⟩], q.nextNumber + 1, q.lost⟩ := by
  simp [EventQueue.push, Config.eventCapacity, h]

theorem EventQueue.push_full {q : EventQueue} (info : EventInfo) (stamp : Word32) (h : 16 ≤ q.queue.length) :
    q.push info stamp = { q with lost := stopSucc q.lost } := by
  simp [EventQueue.push, Config.eventCapacity, Nat.not_lt.mpr h]

/-! ## The frame store -/

/-- Freeing a FILLING slot (R23). -/
theorem Store.free_filling {st : Store} {n : SlotNo} {i : IngressNo} (h : st.slot n = .filling i) :
    st.free n = { st with
      slots := st.slots.set n .free
      freeList := st.freeList ++ [n]
      use := st.use.set i (st.use.get i - 1) } := by
  simp [Store.free, h, Slot.usedBy, lowerUse]

/-- A holder leaves a slot that another one still holds (R28). -/
theorem Store.leave_held {st : Store} {h : Holder} {n : SlotNo} {source : Source} {record : SlotRecord}
    {holders : Holders} (hs : st.slot n = .held source record holders) (hl : (holders.without h).isEmpty = false) :
    st.leave h n = st.setSlot n (.held source record (holders.without h)) := by
  simp [Store.leave, hs, hl]

/-- The last holder leaves a slot (R28). -/
theorem Store.leave_last {st : Store} {h : Holder} {n : SlotNo} {source : Source} {record : SlotRecord}
    {holders : Holders} (hs : st.slot n = .held source record holders) (hl : (holders.without h).isEmpty = true) :
    st.leave h n = st.free n := by
  simp [Store.leave, hs, hl]

/-- A slot that is not HELD has no holder to leave. -/
theorem Store.leave_not_held {st : Store} {h : Holder} {n : SlotNo}
    (hs : ∀ source record holders, st.slot n ≠ .held source record holders) : st.leave h n = st := by
  unfold Store.leave
  split
  · rename_i source record holders heq
    exact absurd heq (hs source record holders)
  · rfl

theorem Store.leaveAll_nil (st : Store) (h : Holder) : st.leaveAll h [] = st := rfl

theorem Store.leaveAll_cons (st : Store) (h : Holder) (n : SlotNo) (ns : List SlotNo) :
    st.leaveAll h (n :: ns) = (st.leave h n).leaveAll h ns := rfl

theorem Store.free_quota (st : Store) (n : SlotNo) : (st.free n).quota = st.quota := by
  unfold Store.free; split <;> rfl

theorem Store.leave_quota (st : Store) (h : Holder) (n : SlotNo) : (st.leave h n).quota = st.quota := by
  unfold Store.leave
  split
  · split
    · exact Store.free_quota st n
    · rfl
  · rfl

theorem Store.leaveAll_quota (st : Store) (h : Holder) (ns : List SlotNo) : (st.leaveAll h ns).quota = st.quota := by
  induction ns generalizing st with
  | nil => rfl
  | cons n ns ih => rw [Store.leaveAll_cons, ih, Store.leave_quota]

theorem Store.settle_quota (st : Store) (i : IngressNo) (n : SlotNo) (r : SlotRecord) (h : Holders) :
    (st.settle i n r h).quota = st.quota := by
  unfold Store.settle
  split
  · exact Store.free_quota st n
  · rfl

/-- The three decisions at a start of frame (R20, R21). -/
theorem State.allocate_over {s : State} {i : IngressNo} (stamp : Word32)
    (h : s.store.quota.get i ≤ s.store.use.get i) : s.allocate i stamp = (s, .unstored .overQuota) := by
  simp [State.allocate, h]

theorem State.allocate_none {s : State} {i : IngressNo} (stamp : Word32)
    (h : s.store.use.get i < s.store.quota.get i) (hp : s.store.freeList.length ≤ s.reserveNeed) :
    s.allocate i stamp = (s, .unstored .noSlot) := by
  simp [State.allocate, Nat.not_le.mpr h, Store.freeCount, hp]

theorem State.allocate_granted {s : State} {i : IngressNo} (stamp : Word32) {n : SlotNo} {rest : List SlotNo}
    (h : s.store.use.get i < s.store.quota.get i) (hp : s.reserveNeed < s.store.freeList.length)
    (hn : s.store.freeList = n :: rest) :
    s.allocate i stamp =
      ({ s with store := { s.store with
          slots := s.store.slots.set n (.filling i)
          freeList := rest
          use := s.store.use.set i (s.store.use.get i + 1) } }, .stored n stamp) := by
  have hp' : s.reserveNeed ≤ rest.length := by simpa [hn, Nat.lt_succ_iff] using hp
  simp [State.allocate, Nat.not_le.mpr h, Store.freeCount, hn, hp']

/-- An allocation leaves the state as it is, or takes a slot in the store alone. -/
theorem State.allocate_cases (s : State) (i : IngressNo) (stamp : Word32) :
    (∃ reason, s.allocate i stamp = (s, .unstored reason)) ∨
      ∃ n st, s.store.freeList.head? = some n ∧ st.quota = s.store.quota ∧
        s.allocate i stamp = ({ s with store := st }, .stored n stamp) := by
  unfold State.allocate
  split
  · exact .inl ⟨_, rfl⟩
  · split
    · exact .inl ⟨_, rfl⟩
    · split
      · exact .inl ⟨_, rfl⟩
      · rename_i n rest heq
        exact .inr ⟨n, { s.store with
        slots := s.store.slots.set n (.filling i)
        freeList := rest
        use := s.store.use.set i (s.store.use.get i + 1) }, by simp [heq], rfl, rfl⟩

/-! ## Offers and classification -/

theorem State.relayOffer_room {s : State} (i : IngressNo) (n : SlotNo) (h : s.relay.queue.length < 64) :
    s.relayOffer i n = ({ s with relay := s.relay.append n }, true) := by
  simp [State.relayOffer, Config.relayCapacity, h]

theorem State.relayOffer_full {s : State} (i : IngressNo) (n : SlotNo) (h : 64 ≤ s.relay.queue.length) :
    s.relayOffer i n = (s.countDrop i .relayFull, false) := by
  simp [State.relayOffer, Config.relayCapacity, Nat.not_lt.mpr h]

theorem State.deliveryOffer_room {s : State} (i : IngressNo) (n : SlotNo) (h : s.delivery.queue.length < 32) :
    s.deliveryOffer i n =
      ({ s with delivery := { s.delivery with
          queue := s.delivery.queue ++ [⟨n, s.delivery.nextNumber, .waiting, .none⟩]
          nextNumber := s.delivery.nextNumber + 1 } }, true) := by
  simp [State.deliveryOffer, Config.deliveryCapacity, h]

theorem State.deliveryOffer_full {s : State} (i : IngressNo) (n : SlotNo) (h : 32 ≤ s.delivery.queue.length) :
    s.deliveryOffer i n = (s.countDrop i .deliveryFull, false) := by
  simp [State.deliveryOffer, Config.deliveryCapacity, Nat.not_lt.mpr h]


/-! ### What an offer, a classification and an end of frame leave as it was -/

@[simp] theorem State.relayOffer_part (s : State) (i : IngressNo) (n : SlotNo) :
    (s.relayOffer i n).1.part = s.part := by unfold State.relayOffer; split <;> rfl
@[simp] theorem State.relayOffer_stop (s : State) (i : IngressNo) (n : SlotNo) :
    (s.relayOffer i n).1.stop = s.stop := by unfold State.relayOffer; split <;> rfl
@[simp] theorem State.relayOffer_stamp (s : State) (i : IngressNo) (n : SlotNo) :
    (s.relayOffer i n).1.stamp = s.stamp := by unfold State.relayOffer; split <;> rfl
@[simp] theorem State.relayOffer_store (s : State) (i : IngressNo) (n : SlotNo) :
    (s.relayOffer i n).1.store = s.store := by unfold State.relayOffer; split <;> rfl
@[simp] theorem State.relayOffer_taps (s : State) (i : IngressNo) (n : SlotNo) :
    (s.relayOffer i n).1.taps = s.taps := by unfold State.relayOffer; split <;> rfl
@[simp] theorem State.relayOffer_trunk (s : State) (i : IngressNo) (n : SlotNo) :
    (s.relayOffer i n).1.trunk = s.trunk := by unfold State.relayOffer; split <;> rfl
@[simp] theorem State.relayOffer_entries (s : State) (i : IngressNo) (n : SlotNo) :
    (s.relayOffer i n).1.entries = s.entries := by unfold State.relayOffer; split <;> rfl
@[simp] theorem State.relayOffer_delivery (s : State) (i : IngressNo) (n : SlotNo) :
    (s.relayOffer i n).1.delivery = s.delivery := by unfold State.relayOffer; split <;> rfl
@[simp] theorem State.relayOffer_txDone (s : State) (i : IngressNo) (n : SlotNo) :
    (s.relayOffer i n).1.txDone = s.txDone := by unfold State.relayOffer; split <;> rfl
@[simp] theorem State.relayOffer_line (s : State) (i : IngressNo) (n : SlotNo) :
    (s.relayOffer i n).1.line = s.line := by unfold State.relayOffer; split <;> rfl
@[simp] theorem State.relayOffer_engine (s : State) (i : IngressNo) (n : SlotNo) :
    (s.relayOffer i n).1.engine = s.engine := by unfold State.relayOffer; split <;> rfl
@[simp] theorem State.relayOffer_pending (s : State) (i : IngressNo) (n : SlotNo) :
    (s.relayOffer i n).1.pending = s.pending := by unfold State.relayOffer; split <;> rfl
@[simp] theorem State.deliveryOffer_part (s : State) (i : IngressNo) (n : SlotNo) :
    (s.deliveryOffer i n).1.part = s.part := by unfold State.deliveryOffer; split <;> rfl
@[simp] theorem State.deliveryOffer_stop (s : State) (i : IngressNo) (n : SlotNo) :
    (s.deliveryOffer i n).1.stop = s.stop := by unfold State.deliveryOffer; split <;> rfl
@[simp] theorem State.deliveryOffer_stamp (s : State) (i : IngressNo) (n : SlotNo) :
    (s.deliveryOffer i n).1.stamp = s.stamp := by unfold State.deliveryOffer; split <;> rfl
@[simp] theorem State.deliveryOffer_store (s : State) (i : IngressNo) (n : SlotNo) :
    (s.deliveryOffer i n).1.store = s.store := by unfold State.deliveryOffer; split <;> rfl
@[simp] theorem State.deliveryOffer_taps (s : State) (i : IngressNo) (n : SlotNo) :
    (s.deliveryOffer i n).1.taps = s.taps := by unfold State.deliveryOffer; split <;> rfl
@[simp] theorem State.deliveryOffer_trunk (s : State) (i : IngressNo) (n : SlotNo) :
    (s.deliveryOffer i n).1.trunk = s.trunk := by unfold State.deliveryOffer; split <;> rfl
@[simp] theorem State.deliveryOffer_relay (s : State) (i : IngressNo) (n : SlotNo) :
    (s.deliveryOffer i n).1.relay = s.relay := by unfold State.deliveryOffer; split <;> rfl
@[simp] theorem State.deliveryOffer_entries (s : State) (i : IngressNo) (n : SlotNo) :
    (s.deliveryOffer i n).1.entries = s.entries := by unfold State.deliveryOffer; split <;> rfl
@[simp] theorem State.deliveryOffer_txDone (s : State) (i : IngressNo) (n : SlotNo) :
    (s.deliveryOffer i n).1.txDone = s.txDone := by unfold State.deliveryOffer; split <;> rfl
@[simp] theorem State.deliveryOffer_line (s : State) (i : IngressNo) (n : SlotNo) :
    (s.deliveryOffer i n).1.line = s.line := by unfold State.deliveryOffer; split <;> rfl
@[simp] theorem State.deliveryOffer_engine (s : State) (i : IngressNo) (n : SlotNo) :
    (s.deliveryOffer i n).1.engine = s.engine := by unfold State.deliveryOffer; split <;> rfl
@[simp] theorem State.deliveryOffer_pending (s : State) (i : IngressNo) (n : SlotNo) :
    (s.deliveryOffer i n).1.pending = s.pending := by unfold State.deliveryOffer; split <;> rfl
@[simp] theorem State.classify_part (s : State) (i : IngressNo) (n : SlotNo) (f : Frame) (r : SlotRecord) :
    (s.classify i n f r).part = s.part := by
  simp only [State.classify]
  split <;> split <;> split <;> simp
@[simp] theorem State.classify_stop (s : State) (i : IngressNo) (n : SlotNo) (f : Frame) (r : SlotRecord) :
    (s.classify i n f r).stop = s.stop := by
  simp only [State.classify]
  split <;> split <;> split <;> simp
@[simp] theorem State.classify_stamp (s : State) (i : IngressNo) (n : SlotNo) (f : Frame) (r : SlotRecord) :
    (s.classify i n f r).stamp = s.stamp := by
  simp only [State.classify]
  split <;> split <;> split <;> simp
@[simp] theorem State.classify_taps (s : State) (i : IngressNo) (n : SlotNo) (f : Frame) (r : SlotRecord) :
    (s.classify i n f r).taps = s.taps := by
  simp only [State.classify]
  split <;> split <;> split <;> simp
@[simp] theorem State.classify_trunk (s : State) (i : IngressNo) (n : SlotNo) (f : Frame) (r : SlotRecord) :
    (s.classify i n f r).trunk = s.trunk := by
  simp only [State.classify]
  split <;> split <;> split <;> simp
@[simp] theorem State.classify_entries (s : State) (i : IngressNo) (n : SlotNo) (f : Frame) (r : SlotRecord) :
    (s.classify i n f r).entries = s.entries := by
  simp only [State.classify]
  split <;> split <;> split <;> simp
@[simp] theorem State.classify_txDone (s : State) (i : IngressNo) (n : SlotNo) (f : Frame) (r : SlotRecord) :
    (s.classify i n f r).txDone = s.txDone := by
  simp only [State.classify]
  split <;> split <;> split <;> simp
@[simp] theorem State.classify_line (s : State) (i : IngressNo) (n : SlotNo) (f : Frame) (r : SlotRecord) :
    (s.classify i n f r).line = s.line := by
  simp only [State.classify]
  split <;> split <;> split <;> simp
@[simp] theorem State.classify_engine (s : State) (i : IngressNo) (n : SlotNo) (f : Frame) (r : SlotRecord) :
    (s.classify i n f r).engine = s.engine := by
  simp only [State.classify]
  split <;> split <;> split <;> simp
@[simp] theorem State.classify_pending (s : State) (i : IngressNo) (n : SlotNo) (f : Frame) (r : SlotRecord) :
    (s.classify i n f r).pending = s.pending := by
  simp only [State.classify]
  split <;> split <;> split <;> simp
@[simp] theorem State.endFrame_part (s : State) (i : IngressNo) (p : InProgress) (v : Verdict) :
    (s.endFrame i p v).part = s.part := by
  cases v <;> cases p <;> simp [State.endFrame, State.endValidFrame, State.endInvalidFrame]
@[simp] theorem State.endFrame_stop (s : State) (i : IngressNo) (p : InProgress) (v : Verdict) :
    (s.endFrame i p v).stop = s.stop := by
  cases v <;> cases p <;> simp [State.endFrame, State.endValidFrame, State.endInvalidFrame]
@[simp] theorem State.endFrame_stamp (s : State) (i : IngressNo) (p : InProgress) (v : Verdict) :
    (s.endFrame i p v).stamp = s.stamp := by
  cases v <;> cases p <;> simp [State.endFrame, State.endValidFrame, State.endInvalidFrame]
@[simp] theorem State.endFrame_taps (s : State) (i : IngressNo) (p : InProgress) (v : Verdict) :
    (s.endFrame i p v).taps = s.taps := by
  cases v <;> cases p <;> simp [State.endFrame, State.endValidFrame, State.endInvalidFrame]
@[simp] theorem State.endFrame_trunk (s : State) (i : IngressNo) (p : InProgress) (v : Verdict) :
    (s.endFrame i p v).trunk = s.trunk := by
  cases v <;> cases p <;> simp [State.endFrame, State.endValidFrame, State.endInvalidFrame]
@[simp] theorem State.endFrame_entries (s : State) (i : IngressNo) (p : InProgress) (v : Verdict) :
    (s.endFrame i p v).entries = s.entries := by
  cases v <;> cases p <;> simp [State.endFrame, State.endValidFrame, State.endInvalidFrame]
@[simp] theorem State.endFrame_txDone (s : State) (i : IngressNo) (p : InProgress) (v : Verdict) :
    (s.endFrame i p v).txDone = s.txDone := by
  cases v <;> cases p <;> simp [State.endFrame, State.endValidFrame, State.endInvalidFrame]
@[simp] theorem State.endFrame_line (s : State) (i : IngressNo) (p : InProgress) (v : Verdict) :
    (s.endFrame i p v).line = s.line := by
  cases v <;> cases p <;> simp [State.endFrame, State.endValidFrame, State.endInvalidFrame]
@[simp] theorem State.endFrame_engine (s : State) (i : IngressNo) (p : InProgress) (v : Verdict) :
    (s.endFrame i p v).engine = s.engine := by
  cases v <;> cases p <;> simp [State.endFrame, State.endValidFrame, State.endInvalidFrame]
@[simp] theorem State.endFrame_pending (s : State) (i : IngressNo) (p : InProgress) (v : Verdict) :
    (s.endFrame i p v).pending = s.pending := by
  cases v <;> cases p <;> simp [State.endFrame, State.endValidFrame, State.endInvalidFrame]

@[simp] theorem State.tap_endFrame (s : State) (i : IngressNo) (p : InProgress) (v : Verdict) (t : TapNo) :
    (s.endFrame i p v).tap t = s.tap t := by
  simp [State.tap]

@[simp] theorem State.entry_endFrame (s : State) (i : IngressNo) (p : InProgress) (v : Verdict) (e : EntryNo) :
    (s.endFrame i p v).entry e = s.entry e := by
  simp [State.entry]

/-! ## The relay head -/

theorem State.removeHead_cons {s : State} {n : SlotNo} {rest : List SlotNo} (h : s.relay.queue = n :: rest) :
    s.removeHead = { s with
      relay := { s.relay with queue := rest, head := if rest = [] then none else some .fresh }
      store := s.store.leave .relay n } := by
  cases rest <;> simp [State.removeHead, Relay.dropHead, h]

theorem State.removeHead_nil {s : State} (h : s.relay.queue = []) : s.removeHead = s := by
  simp [State.removeHead, h]

theorem State.abandonHead_nil {s : State} (reason : AbandonReason) (h : s.relay.queue = []) :
    s.abandonHead reason = s := by
  simp [State.abandonHead, h]

@[simp] theorem State.removeHead_part (s : State) :
    s.removeHead.part = s.part := by unfold State.removeHead; split <;> rfl
@[simp] theorem State.removeHead_stop (s : State) :
    s.removeHead.stop = s.stop := by unfold State.removeHead; split <;> rfl
@[simp] theorem State.removeHead_stamp (s : State) :
    s.removeHead.stamp = s.stamp := by unfold State.removeHead; split <;> rfl
@[simp] theorem State.removeHead_ingresses (s : State) :
    s.removeHead.ingresses = s.ingresses := by unfold State.removeHead; split <;> rfl
@[simp] theorem State.removeHead_taps (s : State) :
    s.removeHead.taps = s.taps := by unfold State.removeHead; split <;> rfl
@[simp] theorem State.removeHead_trunk (s : State) :
    s.removeHead.trunk = s.trunk := by unfold State.removeHead; split <;> rfl
@[simp] theorem State.removeHead_entries (s : State) :
    s.removeHead.entries = s.entries := by unfold State.removeHead; split <;> rfl
@[simp] theorem State.removeHead_delivery (s : State) :
    s.removeHead.delivery = s.delivery := by unfold State.removeHead; split <;> rfl
@[simp] theorem State.removeHead_events (s : State) :
    s.removeHead.events = s.events := by unfold State.removeHead; split <;> rfl
@[simp] theorem State.removeHead_txDone (s : State) :
    s.removeHead.txDone = s.txDone := by unfold State.removeHead; split <;> rfl
@[simp] theorem State.removeHead_line (s : State) :
    s.removeHead.line = s.line := by unfold State.removeHead; split <;> rfl
@[simp] theorem State.removeHead_engine (s : State) :
    s.removeHead.engine = s.engine := by unfold State.removeHead; split <;> rfl
@[simp] theorem State.removeHead_pending (s : State) :
    s.removeHead.pending = s.pending := by unfold State.removeHead; split <;> rfl
@[simp] theorem State.abandonHead_part (s : State) (r : AbandonReason) :
    (s.abandonHead r).part = s.part := by unfold State.abandonHead; split <;> simp
@[simp] theorem State.abandonHead_stop (s : State) (r : AbandonReason) :
    (s.abandonHead r).stop = s.stop := by unfold State.abandonHead; split <;> simp
@[simp] theorem State.abandonHead_stamp (s : State) (r : AbandonReason) :
    (s.abandonHead r).stamp = s.stamp := by unfold State.abandonHead; split <;> simp
@[simp] theorem State.abandonHead_ingresses (s : State) (r : AbandonReason) :
    (s.abandonHead r).ingresses = s.ingresses := by unfold State.abandonHead; split <;> simp
@[simp] theorem State.abandonHead_taps (s : State) (r : AbandonReason) :
    (s.abandonHead r).taps = s.taps := by unfold State.abandonHead; split <;> simp
@[simp] theorem State.abandonHead_trunk (s : State) (r : AbandonReason) :
    (s.abandonHead r).trunk = s.trunk := by unfold State.abandonHead; split <;> simp
@[simp] theorem State.abandonHead_entries (s : State) (r : AbandonReason) :
    (s.abandonHead r).entries = s.entries := by unfold State.abandonHead; split <;> simp
@[simp] theorem State.abandonHead_delivery (s : State) (r : AbandonReason) :
    (s.abandonHead r).delivery = s.delivery := by unfold State.abandonHead; split <;> simp
@[simp] theorem State.abandonHead_txDone (s : State) (r : AbandonReason) :
    (s.abandonHead r).txDone = s.txDone := by unfold State.abandonHead; split <;> simp
@[simp] theorem State.abandonHead_line (s : State) (r : AbandonReason) :
    (s.abandonHead r).line = s.line := by unfold State.abandonHead; split <;> simp
@[simp] theorem State.abandonHead_engine (s : State) (r : AbandonReason) :
    (s.abandonHead r).engine = s.engine := by unfold State.abandonHead; split <;> simp
@[simp] theorem State.abandonHead_pending (s : State) (r : AbandonReason) :
    (s.abandonHead r).pending = s.pending := by unfold State.abandonHead; split <;> simp

/-! ## The idle point and transmit opportunities -/

/-- The trunk line is at an idle point exactly when 12 recessive bit times have been counted (R2, R9). -/
theorem Trunk.atIdlePoint_iff (k : Trunk) : k.atIdlePoint = true ↔ k.idleCount = 12 := by
  simp [Trunk.atIdlePoint, Config.idleGap]

/-- The conditions of a transmit opportunity, spelled out (R91, R9). -/
theorem State.mayTransmit_iff (s : State) :
    s.mayTransmit = true ↔
      (s.trunk.state = .active ∨ s.trunk.state = .degraded) ∧ s.trunk.inFlight = none ∧ s.trunk.detachPending = false ∧
        s.part = .run ∧ s.trunk.idleCount = 12 ∧ s.trunk.synchronised = true ∧ s.trunk.inProgress = none := by
  have h : s.trunk.state.transmitting = true ↔ s.trunk.state = .active ∨ s.trunk.state = .degraded := by
    cases s.trunk.state <;> simp [TrunkState.transmitting]
  simp [State.mayTransmit, h, Trunk.atIdlePoint_iff, and_assoc]

/-! ## Replies and parked requests -/

theorem sendBack_length (n : Nat) (x : Reply) (replies : List Reply) :
    (sendBack n x replies).length = replies.length := by
  have h (l : List Reply) : (l.filter (· ≠ x)).length + (l.filter (· = x)).length = l.length := by
    induction l with
    | nil => rfl
    | cons y l ih => by_cases hy : y = x <;> simp [hy] at ih ⊢ <;> omega
  rw [sendBack, List.length_append, List.length_append, h, ← List.length_append, List.take_append_drop]

/-- A reply that is queued behind, and is not the one sent back, stands before the copies of that one. -/
theorem sendBack_append_none {x y : Reply} (replies : List Reply) (h : y ≠ x) :
    sendBack 0 x (replies ++ [y]) = (replies.filter fun z => z ≠ x) ++ y :: replies.filter fun z => z = x := by
  simp [sendBack, h]

/-- The same with the front reply on the line, which keeps its place. -/
theorem sendBack_append_front {x y : Reply} (front : Reply) (waiting : List Reply) (h : y ≠ x) :
    sendBack 1 x (front :: waiting ++ [y]) =
      front :: ((waiting.filter fun z => z ≠ x) ++ y :: waiting.filter fun z => z = x) := by
  simp [sendBack, h]

/-- Execution that ends with a reply, in the terms of the statements (R154, R157). -/
theorem State.answer_eq (s : State) (r : Request) (x : Status) (d : Byte) (result : List Byte) :
    s.answer r x d result = s.replied r s.engine.inbox x d result := by
  by_cases h : s.engine.session = .opened <;>
    simp [State.answer, State.produceReply, State.replied, State.queueReply, Request.reply, codeByte, h]

theorem State.refuse_eq (s : State) (r : Request) (x : Status) (d : Byte) :
    s.refuse r x d = s.replied r s.engine.inbox x d [] := s.answer_eq r x d []

theorem State.park_eq (s : State) (r : Request) (subject : ParkedSubject) :
    s.park r subject = s.parkedNow r s.engine.inbox subject := rfl

/-- The parked record of a subject, where there is one, and what its answer does (R155). -/
theorem State.answerParked_none {s : State} {subject : ParkedSubject} (result : List Byte)
    (h : s.engine.parked.find? (fun p => p.subject == subject) = none) : s.answerParked subject result = s := by
  simp [State.answerParked, h]

theorem State.answerParked_some {s : State} {subject : ParkedSubject} (result : List Byte) {p : Parked}
    (h : s.engine.parked.find? (fun p => p.subject == subject) = some p) :
    s.answerParked subject result =
      State.produceReply
        { s with engine := { s.engine with parked := s.engine.parked.filter (fun p => p.subject != subject) } }
        p.check (p.reply result) (p.epoch == s.engine.epoch) := by
  simp [State.answerParked, h]

@[simp] theorem State.produceReply_part (s : State) (c : Word16) (r : Reply) (b : Bool) :
    (s.produceReply c r b).part = s.part := by
  unfold State.produceReply; split <;> rfl
@[simp] theorem State.answerParked_part (s : State) (subject : ParkedSubject) (result : List Byte) :
    (s.answerParked subject result).part = s.part := by
  unfold State.answerParked; split <;> simp
@[simp] theorem State.produceReply_stop (s : State) (c : Word16) (r : Reply) (b : Bool) :
    (s.produceReply c r b).stop = s.stop := by
  unfold State.produceReply; split <;> rfl
@[simp] theorem State.answerParked_stop (s : State) (subject : ParkedSubject) (result : List Byte) :
    (s.answerParked subject result).stop = s.stop := by
  unfold State.answerParked; split <;> simp
@[simp] theorem State.produceReply_stamp (s : State) (c : Word16) (r : Reply) (b : Bool) :
    (s.produceReply c r b).stamp = s.stamp := by
  unfold State.produceReply; split <;> rfl
@[simp] theorem State.answerParked_stamp (s : State) (subject : ParkedSubject) (result : List Byte) :
    (s.answerParked subject result).stamp = s.stamp := by
  unfold State.answerParked; split <;> simp
@[simp] theorem State.produceReply_store (s : State) (c : Word16) (r : Reply) (b : Bool) :
    (s.produceReply c r b).store = s.store := by
  unfold State.produceReply; split <;> rfl
@[simp] theorem State.answerParked_store (s : State) (subject : ParkedSubject) (result : List Byte) :
    (s.answerParked subject result).store = s.store := by
  unfold State.answerParked; split <;> simp
@[simp] theorem State.produceReply_ingresses (s : State) (c : Word16) (r : Reply) (b : Bool) :
    (s.produceReply c r b).ingresses = s.ingresses := by
  unfold State.produceReply; split <;> rfl
@[simp] theorem State.answerParked_ingresses (s : State) (subject : ParkedSubject) (result : List Byte) :
    (s.answerParked subject result).ingresses = s.ingresses := by
  unfold State.answerParked; split <;> simp
@[simp] theorem State.produceReply_taps (s : State) (c : Word16) (r : Reply) (b : Bool) :
    (s.produceReply c r b).taps = s.taps := by
  unfold State.produceReply; split <;> rfl
@[simp] theorem State.answerParked_taps (s : State) (subject : ParkedSubject) (result : List Byte) :
    (s.answerParked subject result).taps = s.taps := by
  unfold State.answerParked; split <;> simp
@[simp] theorem State.produceReply_trunk (s : State) (c : Word16) (r : Reply) (b : Bool) :
    (s.produceReply c r b).trunk = s.trunk := by
  unfold State.produceReply; split <;> rfl
@[simp] theorem State.answerParked_trunk (s : State) (subject : ParkedSubject) (result : List Byte) :
    (s.answerParked subject result).trunk = s.trunk := by
  unfold State.answerParked; split <;> simp
@[simp] theorem State.produceReply_relay (s : State) (c : Word16) (r : Reply) (b : Bool) :
    (s.produceReply c r b).relay = s.relay := by
  unfold State.produceReply; split <;> rfl
@[simp] theorem State.answerParked_relay (s : State) (subject : ParkedSubject) (result : List Byte) :
    (s.answerParked subject result).relay = s.relay := by
  unfold State.answerParked; split <;> simp
@[simp] theorem State.produceReply_entries (s : State) (c : Word16) (r : Reply) (b : Bool) :
    (s.produceReply c r b).entries = s.entries := by
  unfold State.produceReply; split <;> rfl
@[simp] theorem State.answerParked_entries (s : State) (subject : ParkedSubject) (result : List Byte) :
    (s.answerParked subject result).entries = s.entries := by
  unfold State.answerParked; split <;> simp
@[simp] theorem State.produceReply_delivery (s : State) (c : Word16) (r : Reply) (b : Bool) :
    (s.produceReply c r b).delivery = s.delivery := by
  unfold State.produceReply; split <;> rfl
@[simp] theorem State.answerParked_delivery (s : State) (subject : ParkedSubject) (result : List Byte) :
    (s.answerParked subject result).delivery = s.delivery := by
  unfold State.answerParked; split <;> simp
@[simp] theorem State.produceReply_events (s : State) (c : Word16) (r : Reply) (b : Bool) :
    (s.produceReply c r b).events = s.events := by
  unfold State.produceReply; split <;> rfl
@[simp] theorem State.answerParked_events (s : State) (subject : ParkedSubject) (result : List Byte) :
    (s.answerParked subject result).events = s.events := by
  unfold State.answerParked; split <;> simp
@[simp] theorem State.produceReply_txDone (s : State) (c : Word16) (r : Reply) (b : Bool) :
    (s.produceReply c r b).txDone = s.txDone := by
  unfold State.produceReply; split <;> rfl
@[simp] theorem State.answerParked_txDone (s : State) (subject : ParkedSubject) (result : List Byte) :
    (s.answerParked subject result).txDone = s.txDone := by
  unfold State.answerParked; split <;> simp
@[simp] theorem State.produceReply_pending (s : State) (c : Word16) (r : Reply) (b : Bool) :
    (s.produceReply c r b).pending = s.pending := by
  unfold State.produceReply; split <;> rfl
@[simp] theorem State.answerParked_pending (s : State) (subject : ParkedSubject) (result : List Byte) :
    (s.answerParked subject result).pending = s.pending := by
  unfold State.answerParked; split <;> simp

/-- The engine's own fields that no reply touches. -/
@[simp] theorem State.produceReply_session (s : State) (c : Word16) (r : Reply) (b : Bool) :
    (s.produceReply c r b).engine.session = s.engine.session := by
  unfold State.produceReply; split <;> rfl

@[simp] theorem State.produceReply_epoch (s : State) (c : Word16) (r : Reply) (b : Bool) :
    (s.produceReply c r b).engine.epoch = s.engine.epoch := by
  unfold State.produceReply; split <;> rfl

@[simp] theorem State.produceReply_replies (s : State) (c : Word16) (r : Reply) (b : Bool) :
    (s.produceReply c r b).line.replies = s.line.replies ++ [r] := by
  unfold State.produceReply; split <;> rfl

/-! ## STOP, detach and reports -/

@[simp] theorem State.markOvertaken_part (s : State) : s.markOvertaken.part = s.part := by
  unfold State.markOvertaken; split <;> rfl
@[simp] theorem State.markOvertaken_stop (s : State) : s.markOvertaken.stop = s.stop := by
  unfold State.markOvertaken; split <;> rfl
@[simp] theorem State.markOvertaken_stamp (s : State) : s.markOvertaken.stamp = s.stamp := by
  unfold State.markOvertaken; split <;> rfl
@[simp] theorem State.markOvertaken_store (s : State) : s.markOvertaken.store = s.store := by
  unfold State.markOvertaken; split <;> rfl
@[simp] theorem State.markOvertaken_ingresses (s : State) : s.markOvertaken.ingresses = s.ingresses := by
  unfold State.markOvertaken; split <;> rfl
@[simp] theorem State.markOvertaken_taps (s : State) : s.markOvertaken.taps = s.taps := by
  unfold State.markOvertaken; split <;> rfl
@[simp] theorem State.markOvertaken_trunk (s : State) : s.markOvertaken.trunk = s.trunk := by
  unfold State.markOvertaken; split <;> rfl
@[simp] theorem State.markOvertaken_relay (s : State) : s.markOvertaken.relay = s.relay := by
  unfold State.markOvertaken; split <;> rfl
@[simp] theorem State.markOvertaken_entries (s : State) : s.markOvertaken.entries = s.entries := by
  unfold State.markOvertaken; split <;> rfl
@[simp] theorem State.markOvertaken_delivery (s : State) : s.markOvertaken.delivery = s.delivery := by
  unfold State.markOvertaken; split <;> rfl
@[simp] theorem State.markOvertaken_events (s : State) : s.markOvertaken.events = s.events := by
  unfold State.markOvertaken; split <;> rfl
@[simp] theorem State.markOvertaken_txDone (s : State) : s.markOvertaken.txDone = s.txDone := by
  unfold State.markOvertaken; split <;> rfl
@[simp] theorem State.markOvertaken_line (s : State) : s.markOvertaken.line = s.line := by
  unfold State.markOvertaken; split <;> rfl
@[simp] theorem State.markOvertaken_pending (s : State) : s.markOvertaken.pending = s.pending := by
  unfold State.markOvertaken; split <;> rfl

theorem State.foldl_entryDone_part (es : List EntryNo) (o : EntryOutcome) (s : State) :
    (es.foldl (fun s e => s.entryDone e o) s).part = s.part := by
  induction es generalizing s with
  | nil => rfl
  | cons e es ih => rw [List.foldl_cons, ih]; rfl

theorem State.foldl_entryDone_stop (es : List EntryNo) (o : EntryOutcome) (s : State) :
    (es.foldl (fun s e => s.entryDone e o) s).stop = s.stop := by
  induction es generalizing s with
  | nil => rfl
  | cons e es ih => rw [List.foldl_cons, ih]; rfl

theorem State.foldl_entryDone_stamp (es : List EntryNo) (o : EntryOutcome) (s : State) :
    (es.foldl (fun s e => s.entryDone e o) s).stamp = s.stamp := by
  induction es generalizing s with
  | nil => rfl
  | cons e es ih => rw [List.foldl_cons, ih]; rfl

theorem State.foldl_entryDone_ingresses (es : List EntryNo) (o : EntryOutcome) (s : State) :
    (es.foldl (fun s e => s.entryDone e o) s).ingresses = s.ingresses := by
  induction es generalizing s with
  | nil => rfl
  | cons e es ih => rw [List.foldl_cons, ih]; rfl

theorem State.foldl_entryDone_taps (es : List EntryNo) (o : EntryOutcome) (s : State) :
    (es.foldl (fun s e => s.entryDone e o) s).taps = s.taps := by
  induction es generalizing s with
  | nil => rfl
  | cons e es ih => rw [List.foldl_cons, ih]; rfl

theorem State.foldl_entryDone_trunk (es : List EntryNo) (o : EntryOutcome) (s : State) :
    (es.foldl (fun s e => s.entryDone e o) s).trunk = s.trunk := by
  induction es generalizing s with
  | nil => rfl
  | cons e es ih => rw [List.foldl_cons, ih]; rfl

theorem State.foldl_entryDone_relay (es : List EntryNo) (o : EntryOutcome) (s : State) :
    (es.foldl (fun s e => s.entryDone e o) s).relay = s.relay := by
  induction es generalizing s with
  | nil => rfl
  | cons e es ih => rw [List.foldl_cons, ih]; rfl

theorem State.foldl_entryDone_delivery (es : List EntryNo) (o : EntryOutcome) (s : State) :
    (es.foldl (fun s e => s.entryDone e o) s).delivery = s.delivery := by
  induction es generalizing s with
  | nil => rfl
  | cons e es ih => rw [List.foldl_cons, ih]; rfl

theorem State.foldl_entryDone_events (es : List EntryNo) (o : EntryOutcome) (s : State) :
    (es.foldl (fun s e => s.entryDone e o) s).events = s.events := by
  induction es generalizing s with
  | nil => rfl
  | cons e es ih => rw [List.foldl_cons, ih]; rfl

theorem State.foldl_entryDone_line (es : List EntryNo) (o : EntryOutcome) (s : State) :
    (es.foldl (fun s e => s.entryDone e o) s).line = s.line := by
  induction es generalizing s with
  | nil => rfl
  | cons e es ih => rw [List.foldl_cons, ih]; rfl

theorem State.foldl_entryDone_engine (es : List EntryNo) (o : EntryOutcome) (s : State) :
    (es.foldl (fun s e => s.entryDone e o) s).engine = s.engine := by
  induction es generalizing s with
  | nil => rfl
  | cons e es ih => rw [List.foldl_cons, ih]; rfl

theorem State.foldl_entryDone_pending (es : List EntryNo) (o : EntryOutcome) (s : State) :
    (es.foldl (fun s e => s.entryDone e o) s).pending = s.pending := by
  induction es generalizing s with
  | nil => rfl
  | cons e es ih => rw [List.foldl_cons, ih]; rfl

@[simp] theorem State.completeStop_stamp (s : State) : s.completeStop.stamp = s.stamp := by
  simp [State.completeStop, State.foldl_entryDone_stamp]
@[simp] theorem State.report_stamp (s : State) (g : StopRecord → StopRecord) : (s.report g).stamp = s.stamp := by
  unfold State.report; split; · rfl
  split <;> simp
@[simp] theorem State.reportTap_stamp (s : State) (t : TapNo) : (s.reportTap t).stamp = s.stamp := s.report_stamp _
@[simp] theorem State.reportTrunk_stamp (s : State) : s.reportTrunk.stamp = s.stamp := s.report_stamp _
@[simp] theorem State.completeStop_ingresses (s : State) : s.completeStop.ingresses = s.ingresses := by
  simp [State.completeStop, State.foldl_entryDone_ingresses]
@[simp] theorem State.report_ingresses (s : State) (g : StopRecord → StopRecord) : (s.report g).ingresses = s.ingresses := by
  unfold State.report; split; · rfl
  split <;> simp
@[simp] theorem State.reportTap_ingresses (s : State) (t : TapNo) : (s.reportTap t).ingresses = s.ingresses := s.report_ingresses _
@[simp] theorem State.reportTrunk_ingresses (s : State) : s.reportTrunk.ingresses = s.ingresses := s.report_ingresses _
@[simp] theorem State.completeStop_taps (s : State) : s.completeStop.taps = s.taps := by
  simp [State.completeStop, State.foldl_entryDone_taps]
@[simp] theorem State.report_taps (s : State) (g : StopRecord → StopRecord) : (s.report g).taps = s.taps := by
  unfold State.report; split; · rfl
  split <;> simp
@[simp] theorem State.reportTap_taps (s : State) (t : TapNo) : (s.reportTap t).taps = s.taps := s.report_taps _
@[simp] theorem State.reportTrunk_taps (s : State) : s.reportTrunk.taps = s.taps := s.report_taps _
@[simp] theorem State.completeStop_trunk (s : State) : s.completeStop.trunk = s.trunk := by
  simp [State.completeStop, State.foldl_entryDone_trunk]
@[simp] theorem State.report_trunk (s : State) (g : StopRecord → StopRecord) : (s.report g).trunk = s.trunk := by
  unfold State.report; split; · rfl
  split <;> simp
@[simp] theorem State.reportTap_trunk (s : State) (t : TapNo) : (s.reportTap t).trunk = s.trunk := s.report_trunk _
@[simp] theorem State.reportTrunk_trunk (s : State) : s.reportTrunk.trunk = s.trunk := s.report_trunk _
@[simp] theorem State.completeStop_delivery (s : State) : s.completeStop.delivery = s.delivery := by
  simp [State.completeStop, State.foldl_entryDone_delivery]
@[simp] theorem State.report_delivery (s : State) (g : StopRecord → StopRecord) : (s.report g).delivery = s.delivery := by
  unfold State.report; split; · rfl
  split <;> simp
@[simp] theorem State.reportTap_delivery (s : State) (t : TapNo) : (s.reportTap t).delivery = s.delivery := s.report_delivery _
@[simp] theorem State.reportTrunk_delivery (s : State) : s.reportTrunk.delivery = s.delivery := s.report_delivery _
@[simp] theorem State.completeStop_pending (s : State) : s.completeStop.pending = s.pending := by
  simp [State.completeStop, State.foldl_entryDone_pending]
@[simp] theorem State.report_pending (s : State) (g : StopRecord → StopRecord) : (s.report g).pending = s.pending := by
  unfold State.report; split; · rfl
  split <;> simp
@[simp] theorem State.reportTap_pending (s : State) (t : TapNo) : (s.reportTap t).pending = s.pending := s.report_pending _
@[simp] theorem State.reportTrunk_pending (s : State) : s.reportTrunk.pending = s.pending := s.report_pending _
@[simp] theorem State.completeDetach_stamp (s : State) : s.completeDetach.stamp = s.stamp := by
  simp only [State.completeDetach]; split <;> simp
@[simp] theorem State.detachIfIdle_stamp (s : State) : s.detachIfIdle.stamp = s.stamp := by
  unfold State.detachIfIdle; split <;> simp
@[simp] theorem State.completeDetach_ingresses (s : State) : s.completeDetach.ingresses = s.ingresses := by
  simp only [State.completeDetach]; split <;> simp
@[simp] theorem State.detachIfIdle_ingresses (s : State) : s.detachIfIdle.ingresses = s.ingresses := by
  unfold State.detachIfIdle; split <;> simp
@[simp] theorem State.completeDetach_taps (s : State) : s.completeDetach.taps = s.taps := by
  simp only [State.completeDetach]; split <;> simp
@[simp] theorem State.detachIfIdle_taps (s : State) : s.detachIfIdle.taps = s.taps := by
  unfold State.detachIfIdle; split <;> simp
@[simp] theorem State.completeDetach_delivery (s : State) : s.completeDetach.delivery = s.delivery := by
  simp only [State.completeDetach]; split <;> simp
@[simp] theorem State.detachIfIdle_delivery (s : State) : s.detachIfIdle.delivery = s.delivery := by
  unfold State.detachIfIdle; split <;> simp
@[simp] theorem State.completeDetach_pending (s : State) : s.completeDetach.pending = s.pending := by
  simp only [State.completeDetach]; split <;> simp
@[simp] theorem State.detachIfIdle_pending (s : State) : s.detachIfIdle.pending = s.pending := by
  unfold State.detachIfIdle; split <;> simp

theorem State.completeStop_part (s : State) : s.completeStop.part = .config := by
  simp [State.completeStop]

theorem State.completeStop_stop (s : State) : s.completeStop.stop = none := by
  simp [State.completeStop]

theorem State.report_none {s : State} (g : StopRecord → StopRecord) (h : s.stop = none) : s.report g = s := by
  simp [State.report, h]

theorem State.report_left {s : State} (g : StopRecord → StopRecord) {record : StopRecord} (h : s.stop = some record)
    (hg : (g record).isEmpty = false) : s.report g = { s with stop := some (g record) } := by
  simp [State.report, h, hg]

theorem State.report_last {s : State} (g : StopRecord → StopRecord) {record : StopRecord} (h : s.stop = some record)
    (hg : (g record).isEmpty = true) : s.report g = s.completeStop.markOvertaken := by
  simp [State.report, h, hg]

theorem State.detachIfIdle_busy {s : State}
    (h : s.trunk.detachPending = false ∨ s.trunk.inFlight.isSome = true ∨ s.trunk.inProgress.isSome = true) :
    s.detachIfIdle = s := by
  unfold State.detachIfIdle
  split
  · rename_i hc
    obtain ⟨h1, h2, h3⟩ := hc
    simp [h1, h2, h3] at h
  · rfl

theorem State.detachIfIdle_idle {s : State} (h1 : s.trunk.detachPending = true) (h2 : s.trunk.inFlight = none)
    (h3 : s.trunk.inProgress = none) : s.detachIfIdle = s.completeDetach := by
  simp [State.detachIfIdle, h1, h2, h3]

/-! ## Taking a request -/

theorem State.takeRequest_ready {s : State} {r : Request} {rest : List Request} (h : s.Ready r rest) :
    s.takeRequest (requestOf r.body) = some (r, { s with engine := { s.engine with inbox := rest } }) := by
  obtain ⟨h1, h2, h3, h4⟩ := h
  simp [State.takeRequest, h4, h1, h2, h3, Config.executionBound]

/-- The execution of the oldest request, where the engine executes it now (R153). -/
theorem State.serve_ready {s : State} {r : Request} {rest : List Request} {code : Option RequestCode}
    (act : Request → State → State) (h : s.Ready r rest) (hc : requestOf r.body = code) :
    s.serve code act = act r { s with engine := { s.engine with inbox := rest } } := by
  subst hc
  simp [State.serve, State.takeRequest_ready h]

/-- A command that names a request takes the oldest request of the inbox, which is that request, or nothing. -/
theorem State.takeRequest_cases (s : State) (code : Option RequestCode) :
    s.takeRequest code = none ∨ ∃ r rest, s.Ready r rest ∧ requestOf r.body = code ∧
      s.takeRequest code = some (r, { s with engine := { s.engine with inbox := rest } }) := by
  unfold State.takeRequest
  split
  · exact .inl rfl
  · rename_i r rest heq
    split
    · rename_i hc
      obtain ⟨h1, h2, h3, h4⟩ := hc
      exact .inr ⟨r, rest, ⟨h1, h2, h3, heq⟩, h4, rfl⟩
    · exact .inl rfl

/-- With a RESET that the engine can execute at the front of the inbox, the last reply is kept as overtaken (R194). -/
theorem State.markOvertaken_ready {s : State} {r : Request} {rest : List Request} (h : s.Ready r rest)
    (hr : requestOf r.body = some .reset) :
    s.markOvertaken = { s with engine := { s.engine with overtaken := s.line.replies.getLast? } } := by
  simp [State.markOvertaken, ← hr, State.takeRequest_ready h]

/-- Without one nothing is kept. -/
theorem State.markOvertaken_none {s : State} (h : ∀ r rest, s.Ready r rest → requestOf r.body ≠ some .reset) :
    s.markOvertaken = s := by
  rcases s.takeRequest_cases (some .reset) with hn | ⟨r, rest, hr, hc, -⟩
  · simp [State.markOvertaken, hn]
  · exact absurd hc (h r rest hr)

/-- So what holds of the state and of every execution holds of the command. -/
theorem State.serve_cases {s : State} {code : Option RequestCode} {act : Request → State → State}
    {P : State → Prop} (hs : P s)
    (ha : ∀ r rest, s.Ready r rest → requestOf r.body = code →
      P (act r { s with engine := { s.engine with inbox := rest } })) : P (s.serve code act) := by
  unfold State.serve
  rcases s.takeRequest_cases code with h | ⟨r, rest, hr, hc, h⟩
  · simpa [h] using hs
  · simpa [h] using ha r rest hr hc

end Sys2Proof.Machine
end

