-- ==== Sys2Proof/Laws/Fields.lean ====
section
/-! SUPPORT. How the fields of a request body are read: each request from its body, each field from the byte that spells its
value, and each field's refusal. -/

namespace Sys2Proof.Machine

/-! ## The request of a body -/

theorem requestOf_hello : requestOf [0x01#8] = some .hello := rfl

theorem requestOf_status (b1 : Byte) : requestOf [0x02#8, b1] = some .status := rfl

theorem requestOf_start : requestOf [0x03#8] = some .start := rfl

theorem requestOf_stop : requestOf [0x04#8] = some .stop := rfl

theorem requestOf_reset : requestOf [0x05#8] = some .reset := rfl

theorem requestOf_setTap (b1 b2 b3 : Byte) : requestOf [0x10#8, b1, b2, b3] = some .setTap := rfl

theorem requestOf_openTap (b1 : Byte) : requestOf [0x11#8, b1] = some .openTap := rfl

theorem requestOf_closeTap (b1 : Byte) : requestOf [0x12#8, b1] = some .closeTap := rfl

theorem requestOf_setQuota (b1 b2 : Byte) : requestOf [0x13#8, b1, b2] = some .setQuota := rfl

theorem requestOf_setDefault (b1 b2 : Byte) : requestOf [0x21#8, b1, b2] = some .setDefault := rfl

theorem requestOf_readWindow (b1 b2 b3 : Byte) : requestOf [0x22#8, b1, b2, b3] = some .readWindow := rfl

theorem requestOf_commit (b1 : Byte) : requestOf [0x23#8, b1] = some .commit := rfl

theorem requestOf_discardStaged (b1 : Byte) : requestOf [0x24#8, b1] = some .discardStaged := rfl

theorem requestOf_setRelay (b1 b2 b3 : Byte) : requestOf [0x30#8, b1, b2, b3] = some .setRelay := rfl

theorem requestOf_holdRelay : requestOf [0x31#8] = some .holdRelay := rfl

theorem requestOf_releaseRelay : requestOf [0x32#8] = some .releaseRelay := rfl

theorem requestOf_flushRelay : requestOf [0x33#8] = some .flushRelay := rfl

theorem requestOf_cancel (b1 : Byte) : requestOf [0x35#8, b1] = some .cancel := rfl

theorem requestOf_setTrunk (b1 b2 : Byte) : requestOf [0x40#8, b1, b2] = some .setTrunk := rfl

theorem requestOf_attach : requestOf [0x41#8] = some .attach := rfl

theorem requestOf_detach : requestOf [0x42#8] = some .detach := rfl

theorem requestOf_resume : requestOf [0x43#8] = some .resume := rfl

theorem requestOf_grant (b1 : Byte) : requestOf [0x50#8, b1] = some .grant := rfl

theorem requestOf_ack (b1 b2 : Byte) : requestOf [0x51#8, b1, b2] = some .ack := rfl

theorem requestOf_resend : requestOf [0x52#8] = some .resend := rfl

theorem requestOf_discardCaptures : requestOf [0x53#8] = some .discardCaptures := rfl

theorem requestOf_setWindow (fields : List Byte) (h : fields.length = 16) :
    requestOf (0x20#8 :: fields) = some .setWindow := by
  have hc : RequestCode.ofByte 0x20#8 = some .setWindow := rfl
  simp [requestOf, hc, RequestCode.lengthFits, RequestCode.fieldBytes, h]

theorem requestOf_send (b1 t2 t1 t0 kind len : Byte) (payload : List Byte)
    (h : payload.length = sendPayloadSize kind len) :
    requestOf (0x34#8 :: b1 :: t2 :: t1 :: t0 :: kind :: len :: payload) = some .send := by
  have hc : RequestCode.ofByte 0x34#8 = some .send := rfl
  simp [requestOf, hc, RequestCode.lengthFits, h]

/-- A request code is read back from its byte. -/
theorem RequestCode.ofByte_byte (k : RequestCode) : RequestCode.ofByte k.byte = some k := by
  cases k <;> rfl

/-- A byte that reads as a request code is that code's byte. -/
theorem RequestCode.byte_of_ofByte {b : Byte} {k : RequestCode} (h : RequestCode.ofByte b = some k) : k.byte = b := by
  have h' := List.find?_some h
  simpa using h'

/-! ## Fields: the value a byte spells -/

theorem Rate.ofCode_code (x : Rate) : Rate.ofCode x.code = some x := by cases x <;> rfl

theorem StampPoint.ofCode_code (x : StampPoint) : StampPoint.ofCode x.code = some x := by cases x <;> rfl

theorem FrameKind.ofCode_code (x : FrameKind) : FrameKind.ofCode x.code = some x := by cases x <;> rfl

theorem Kinds.ofCode_code (x : Kinds) : Kinds.ofCode x.code = some x := by cases x <;> rfl

theorem Target.ofCode_code (x : Target) : Target.ofCode x.code = some x := by cases x <;> rfl

theorem Copy.ofCode_code (x : Copy) : Copy.ofCode x.code = some x := by cases x <;> rfl

theorem flagOf_flagByte (b : Bool) : flagOf (flagByte b) = some b := by cases b <;> rfl

theorem indexOf_ofNat {n : Nat} (i : Fin n) (h : n ≤ 256) : indexOf n (BitVec.ofNat 8 i.val) = some i := by
  have hi : i.val % 256 = i.val := Nat.mod_eq_of_lt (by omega)
  simp [indexOf, hi]

theorem numberIn_of {lo hi : Nat} {b : Byte} (h1 : lo ≤ b.toNat) (h2 : b.toNat ≤ hi) :
    numberIn lo hi b = some b.toNat := by
  simp [numberIn, h1, h2]

/-! ## Fields: the bytes that are refused -/

theorem indexOf_none {n : Nat} {b : Byte} (h : n ≤ b.toNat) : indexOf n b = none := by
  simp [indexOf, Nat.not_lt.mpr h]

theorem indexOf_some {n : Nat} {b : Byte} (h : b.toNat < n) : indexOf n b = some ⟨b.toNat, h⟩ := by
  simp [indexOf, h]

theorem numberIn_none {lo hi : Nat} {b : Byte} (h : b.toNat < lo ∨ hi < b.toNat) : numberIn lo hi b = none := by
  simp only [numberIn, ite_eq_right_iff, reduceCtorEq, imp_false]
  omega

theorem Rate.ofCode_none {b : Byte} (h : 4 ≤ b.toNat) : Rate.ofCode b = none := by
  simp only [Rate.ofCode]
  repeat' split
  all_goals first
    | rfl
    | (subst b; simp at h)

theorem StampPoint.ofCode_none {b : Byte} (h : 2 ≤ b.toNat) : StampPoint.ofCode b = none := by
  simp only [StampPoint.ofCode]
  repeat' split
  all_goals first
    | rfl
    | (subst b; simp at h)

theorem Target.ofCode_none {b : Byte} (h : 4 ≤ b.toNat) : Target.ofCode b = none := by
  simp only [Target.ofCode]
  repeat' split
  all_goals first
    | rfl
    | (subst b; simp at h)

theorem Copy.ofCode_none {b : Byte} (h : 2 ≤ b.toNat) : Copy.ofCode b = none := by
  simp only [Copy.ofCode]
  repeat' split
  all_goals first
    | rfl
    | (subst b; simp at h)

theorem flagOf_none {b : Byte} (h : 2 ≤ b.toNat) : flagOf b = none := by
  simp only [flagOf]
  repeat' split
  all_goals first
    | rfl
    | (subst b; simp at h)

/-- A byte below 4 spells a rate, a byte below 2 a stamp point. -/
theorem Rate.ofCode_some {b : Byte} (h : b.toNat < 4) : ∃ x, Rate.ofCode b = some x ∧ x.code = b := by
  have hb : b = 0 ∨ b = 1 ∨ b = 2 ∨ b = 3 := by bv_omega
  rcases hb with rfl | rfl | rfl | rfl
  · exact ⟨.kbit125, rfl, rfl⟩
  · exact ⟨.kbit250, rfl, rfl⟩
  · exact ⟨.kbit500, rfl, rfl⟩
  · exact ⟨.kbit1000, rfl, rfl⟩

theorem flagOf_some {b : Byte} (h : b.toNat < 2) : ∃ x, flagOf b = some x ∧ flagByte x = b := by
  have hb : b = 0 ∨ b = 1 := by bv_omega
  rcases hb with rfl | rfl
  · exact ⟨false, rfl, rfl⟩
  · exact ⟨true, rfl, rfl⟩

/-! ## Checks in order -/

theorem needField_some {α : Type} (n : Byte) (a : α) : needField n (some a) = .ok a := rfl

theorem needField_none {α : Type} (n : Byte) : needField n (none : Option α) = .error (.badValue, n) := rfl

theorem State.afterCheck_ok {α : Type} (s : State) (r : Request) (a : α) (go : α → State) :
    s.afterCheck r (.ok a) go = go a := rfl

theorem State.afterCheck_error {α : Type} (s : State) (r : Request) (x : Status) (d : Byte) (go : α → State) :
    s.afterCheck r (.error (x, d)) go = s.refuse r x d := rfl

/-! ## Arrival -/

@[simp] theorem State.arrive_part (s : State) (r : Request) : (s.arrive r).part = s.part := by
  unfold State.arrive State.replyAtArrival
  repeat' split
  all_goals simp

@[simp] theorem State.takeHunt_part (s : State) (r : HunterRun) : (s.takeHunt r).part = s.part := by
  unfold State.takeHunt
  generalize r.accepted = rs
  suffices h : ∀ t : State, (rs.foldl State.arrive t).part = t.part from h _
  intro t
  induction rs generalizing t with
  | nil => rfl
  | cons q qs ih => rw [List.foldl_cons, ih, State.arrive_part]

@[simp] theorem State.arrive_stop (s : State) (r : Request) : (s.arrive r).stop = s.stop := by
  unfold State.arrive State.replyAtArrival
  repeat' split
  all_goals simp

@[simp] theorem State.takeHunt_stop (s : State) (r : HunterRun) : (s.takeHunt r).stop = s.stop := by
  unfold State.takeHunt
  generalize r.accepted = rs
  suffices h : ∀ t : State, (rs.foldl State.arrive t).stop = t.stop from h _
  intro t
  induction rs generalizing t with
  | nil => rfl
  | cons q qs ih => rw [List.foldl_cons, ih, State.arrive_stop]

@[simp] theorem State.arrive_stamp (s : State) (r : Request) : (s.arrive r).stamp = s.stamp := by
  unfold State.arrive State.replyAtArrival
  repeat' split
  all_goals simp

@[simp] theorem State.takeHunt_stamp (s : State) (r : HunterRun) : (s.takeHunt r).stamp = s.stamp := by
  unfold State.takeHunt
  generalize r.accepted = rs
  suffices h : ∀ t : State, (rs.foldl State.arrive t).stamp = t.stamp from h _
  intro t
  induction rs generalizing t with
  | nil => rfl
  | cons q qs ih => rw [List.foldl_cons, ih, State.arrive_stamp]

@[simp] theorem State.arrive_store (s : State) (r : Request) : (s.arrive r).store = s.store := by
  unfold State.arrive State.replyAtArrival
  repeat' split
  all_goals simp

@[simp] theorem State.takeHunt_store (s : State) (r : HunterRun) : (s.takeHunt r).store = s.store := by
  unfold State.takeHunt
  generalize r.accepted = rs
  suffices h : ∀ t : State, (rs.foldl State.arrive t).store = t.store from h _
  intro t
  induction rs generalizing t with
  | nil => rfl
  | cons q qs ih => rw [List.foldl_cons, ih, State.arrive_store]

@[simp] theorem State.arrive_ingresses (s : State) (r : Request) : (s.arrive r).ingresses = s.ingresses := by
  unfold State.arrive State.replyAtArrival
  repeat' split
  all_goals simp

@[simp] theorem State.takeHunt_ingresses (s : State) (r : HunterRun) : (s.takeHunt r).ingresses = s.ingresses := by
  unfold State.takeHunt
  generalize r.accepted = rs
  suffices h : ∀ t : State, (rs.foldl State.arrive t).ingresses = t.ingresses from h _
  intro t
  induction rs generalizing t with
  | nil => rfl
  | cons q qs ih => rw [List.foldl_cons, ih, State.arrive_ingresses]

@[simp] theorem State.arrive_taps (s : State) (r : Request) : (s.arrive r).taps = s.taps := by
  unfold State.arrive State.replyAtArrival
  repeat' split
  all_goals simp

@[simp] theorem State.takeHunt_taps (s : State) (r : HunterRun) : (s.takeHunt r).taps = s.taps := by
  unfold State.takeHunt
  generalize r.accepted = rs
  suffices h : ∀ t : State, (rs.foldl State.arrive t).taps = t.taps from h _
  intro t
  induction rs generalizing t with
  | nil => rfl
  | cons q qs ih => rw [List.foldl_cons, ih, State.arrive_taps]

@[simp] theorem State.arrive_trunk (s : State) (r : Request) : (s.arrive r).trunk = s.trunk := by
  unfold State.arrive State.replyAtArrival
  repeat' split
  all_goals simp

@[simp] theorem State.takeHunt_trunk (s : State) (r : HunterRun) : (s.takeHunt r).trunk = s.trunk := by
  unfold State.takeHunt
  generalize r.accepted = rs
  suffices h : ∀ t : State, (rs.foldl State.arrive t).trunk = t.trunk from h _
  intro t
  induction rs generalizing t with
  | nil => rfl
  | cons q qs ih => rw [List.foldl_cons, ih, State.arrive_trunk]

@[simp] theorem State.arrive_relay (s : State) (r : Request) : (s.arrive r).relay = s.relay := by
  unfold State.arrive State.replyAtArrival
  repeat' split
  all_goals simp

@[simp] theorem State.takeHunt_relay (s : State) (r : HunterRun) : (s.takeHunt r).relay = s.relay := by
  unfold State.takeHunt
  generalize r.accepted = rs
  suffices h : ∀ t : State, (rs.foldl State.arrive t).relay = t.relay from h _
  intro t
  induction rs generalizing t with
  | nil => rfl
  | cons q qs ih => rw [List.foldl_cons, ih, State.arrive_relay]

@[simp] theorem State.arrive_entries (s : State) (r : Request) : (s.arrive r).entries = s.entries := by
  unfold State.arrive State.replyAtArrival
  repeat' split
  all_goals simp

@[simp] theorem State.takeHunt_entries (s : State) (r : HunterRun) : (s.takeHunt r).entries = s.entries := by
  unfold State.takeHunt
  generalize r.accepted = rs
  suffices h : ∀ t : State, (rs.foldl State.arrive t).entries = t.entries from h _
  intro t
  induction rs generalizing t with
  | nil => rfl
  | cons q qs ih => rw [List.foldl_cons, ih, State.arrive_entries]

@[simp] theorem State.arrive_delivery (s : State) (r : Request) : (s.arrive r).delivery = s.delivery := by
  unfold State.arrive State.replyAtArrival
  repeat' split
  all_goals simp

@[simp] theorem State.takeHunt_delivery (s : State) (r : HunterRun) : (s.takeHunt r).delivery = s.delivery := by
  unfold State.takeHunt
  generalize r.accepted = rs
  suffices h : ∀ t : State, (rs.foldl State.arrive t).delivery = t.delivery from h _
  intro t
  induction rs generalizing t with
  | nil => rfl
  | cons q qs ih => rw [List.foldl_cons, ih, State.arrive_delivery]

@[simp] theorem State.arrive_events (s : State) (r : Request) : (s.arrive r).events = s.events := by
  unfold State.arrive State.replyAtArrival
  repeat' split
  all_goals simp

@[simp] theorem State.takeHunt_events (s : State) (r : HunterRun) : (s.takeHunt r).events = s.events := by
  unfold State.takeHunt
  generalize r.accepted = rs
  suffices h : ∀ t : State, (rs.foldl State.arrive t).events = t.events from h _
  intro t
  induction rs generalizing t with
  | nil => rfl
  | cons q qs ih => rw [List.foldl_cons, ih, State.arrive_events]

@[simp] theorem State.arrive_txDone (s : State) (r : Request) : (s.arrive r).txDone = s.txDone := by
  unfold State.arrive State.replyAtArrival
  repeat' split
  all_goals simp

@[simp] theorem State.takeHunt_txDone (s : State) (r : HunterRun) : (s.takeHunt r).txDone = s.txDone := by
  unfold State.takeHunt
  generalize r.accepted = rs
  suffices h : ∀ t : State, (rs.foldl State.arrive t).txDone = t.txDone from h _
  intro t
  induction rs generalizing t with
  | nil => rfl
  | cons q qs ih => rw [List.foldl_cons, ih, State.arrive_txDone]

@[simp] theorem State.arrive_pending (s : State) (r : Request) : (s.arrive r).pending = s.pending := by
  unfold State.arrive State.replyAtArrival
  repeat' split
  all_goals simp

@[simp] theorem State.takeHunt_pending (s : State) (r : HunterRun) : (s.takeHunt r).pending = s.pending := by
  unfold State.takeHunt
  generalize r.accepted = rs
  suffices h : ∀ t : State, (rs.foldl State.arrive t).pending = t.pending from h _
  intro t
  induction rs generalizing t with
  | nil => rfl
  | cons q qs ih => rw [List.foldl_cons, ih, State.arrive_pending]

/-- An arrival leaves the hunter and the link error count as they are. -/
theorem State.arrive_hunter (s : State) (r : Request) : (s.arrive r).line.hunter = s.line.hunter := by
  unfold State.arrive State.replyAtArrival
  repeat' split
  all_goals rfl

theorem State.arrive_linkErrors (s : State) (r : Request) : (s.arrive r).line.linkErrors = s.line.linkErrors := by
  unfold State.arrive State.replyAtArrival
  repeat' split
  all_goals rfl

end Sys2Proof.Machine
end

