-- ==== Sys2Proof/Tests/Slice0.lean ====
section
/-! SUPPORT. The model's own tests: small states, one command each, with the values the spec's examples give, and for every
statement that has hypotheses a state and operands that meet them. -/

set_option Elab.async false

namespace Sys2Proof.Tests

open Sys2Proof Sys2Proof.Machine

/-! ## Small states -/

/-- The state a command leaves; the state itself where the command stops. -/
def after (s : State) (c : Instr) : State :=
  match exec c s with
  | .next t => t
  | .fault _ | .refused _ => s

/-- Whether a command stops. -/
def stops (s : State) (c : Instr) : Bool :=
  match exec c s with
  | .next _ => false
  | .fault _ | .refused _ => true

/-- A command that does not stop answers the state `after` names. -/
theorem answers (s : State) (c : Instr) (h : stops s c = false) : exec c s = .next (after s c) := by
  unfold stops at h
  unfold after
  split at h <;> simp_all

/-- CONFIG, session CLOSED. -/
def config : State := { State.reset with part := .config }

/-- RUN, session OPEN with epoch 5, every tap OFF, the trunk DETACHED. -/
def run : State :=
  { State.reset with
    part := .run
    engine := { State.reset.engine with session := .opened, epoch := 5 } }

def withTap (s : State) (t : TapNo) (tap : Tap) : State := { s with taps := s.taps.set t tap }

def withSlot (s : State) (n : SlotNo) (x : Slot) : State := { s with store := s.store.setSlot n x }

def withEntry (s : State) (e : EntryNo) (x : HostEntry) : State := { s with entries := s.entries.set e x }

def withTrunk (s : State) (k : Trunk) : State := { s with trunk := k }

def withHunter (s : State) (h : Hunter) : State := { s with line := { s.line with hunter := h } }

/-- A trunk port in a state, with nothing else going on. -/
def port (state : TrunkState) : Trunk := { Trunk.initial with state := state }

/-- A request with sequence number 31h, as it stands in the inbox. -/
def heard (body : List Byte) : Request := ⟨0x31#8, 0x1234#16, body⟩

/-- The state with that request as the only one in the inbox. -/
def asks (s : State) (body : List Byte) : State := { s with engine := { s.engine with inbox := [heard body] } }

/-- The newest queued reply: status, detail and result fields. -/
def answered (s : State) : Option (Status × Byte × List Byte) :=
  s.line.replies.getLast?.map fun r => (r.status, r.detail, r.result)

/-- The events stored, oldest first. -/
def told (s : State) : List EventInfo := s.events.queue.map EventRecord.info

/-- The frame of section 4.9, frame a: DATA, tag 000120h, four bytes. -/
def frameA : Frame := ⟨0x000120#24, .data, 4, [1#8, 2#8, 3#8, 4#8]⟩

/-- A QUERY, tag 000345h, for two bytes (section 4.9, frame c). -/
def frameC : Frame := ⟨0x000345#24, .query, 2, []⟩

/-- A slot record of a frame with a tag. -/
def recordOf (tag : Tag) : SlotRecord :=
  { seq := some 70, tagReceived := tag, tagOut := tag, kind := .data, length := 1, payload := [9#8], stamp := 77
    classified := some ⟨0, 0⟩ }

/-- The same for a host entry's frame. -/
def hostRecordOf (tag : Tag) : SlotRecord := { recordOf tag with seq := none, classified := none }

/-- The windows of section 4.9, at ingress 2 and generation 41. -/
def tableOf (third : Target) : Table :=
  { windows := ((((Vector.replicate 8 Window.cleared).set 0 ⟨true, 0x000100#24, 0xFFFF00#24, .data, 8, .both, some 0x200100#24⟩).set 1
      ⟨true, 0x000000#24, 0xFFF000#24, .query, 32, .drop, none⟩).set 2
      ⟨false, 0x000120#24, 0xFFFFFF#24, .any, 32, .host, none⟩).set 3
      ⟨true, 0x000000#24, 0xF00000#24, .any, 32, third, some 0x200000#24⟩
    default := .drop }

/-- A tap following a frame in a slot. -/
def following (state : TapState) (n : SlotNo) (parked : Bool) : Tap := ⟨state, false, 0, some (.stored n 5000000#32), parked⟩

/-- T2 receiving a stored frame in slot 17, its SOF stamp 5000000, with the table of section 11.1. -/
def receiving : State :=
  let g : Ingress := { Ingress.initial with nextSeq := 904, active := tableOf .both, generation := 42 }
  withSlot { withTap run 2 (following .listen 17 false) with ingresses := run.ingresses.set 2 g } 17 (.filling 2)

/-- A relay queue of slots 5 and 9, T1 frames, the first held by both queues; the delivery queue holds it as capture 40. -/
def relaying : State :=
  { withSlot (withSlot run 5 (.held (.ingress 1) (recordOf 0x300040#24) ⟨true, true, false⟩)) 9
      (.held (.ingress 1) (recordOf 0x300041#24) ⟨true, false, false⟩) with
    relay := { Relay.initial with queue := [5, 9], head := some .fresh }
    delivery := ⟨[⟨5, 40, .waiting, .none⟩], 41, 4⟩
    trunk := { port .active with synchronised := true, idleCount := 12 } }

/-- An entry with a frame of its own in a slot. -/
def pendingEntry (s : State) (e : EntryNo) (n : SlotNo) (tag : Tag) (state : EntryState) (attempts : Nat) : State :=
  withEntry (withSlot s n (.held .host (hostRecordOf tag) ⟨false, false, true⟩)) e ⟨state, some n, attempts, false, none⟩

/-- The state with an attempt in flight, sending frame a. -/
def sending (s : State) (c : Candidate) : State :=
  withTrunk s { s.trunk with inFlight := some c, sending := frameA.sentBits, idleCount := 0 }

/-- What is read back until an arbitration bit is lost: the first recessive bit of the tag that reads dominant. -/
def readLost : List Level :=
  let n := (frameA.sentBits.findIdx? fun b => b.role == .arbitration && b.level).getD 0
  (frameA.sentBits.take n).map SentBit.level ++ [false]

/-- The delivery queue of section 11.4. -/
def capturing (states : List CaptureState) : State :=
  let numbered := states.zipIdx.map fun (state, k) =>
    (⟨Fin.ofNat 96 k, BitVec.ofNat 16 (40 + k), state, .none⟩ : DeliveryEntry)
  let held (k : Nat) : Slot := .held (.ingress 0) (recordOf (BitVec.ofNat 24 k)) ⟨false, true, false⟩
  { run with
    delivery := ⟨numbered, BitVec.ofNat 16 (40 + states.length), 4⟩
    store := { run.store with
      slots := Vector.ofFn fun n => if n.val < states.length then held n.val else .free
      freeList := run.store.freeList.drop states.length
      use := run.store.use.set 0 states.length } }

/-! ## Which commands name an event that can happen -/

/-- A tap's frame cannot end before its end delimiter is over: the last level is missing. -/
theorem test_unfinished_tap_frame_refused :
    (Instr.tapEndOfFrame 0 (frameA.lineLevels false).dropLast).wellFormed = false := by decide +kernel

/-- A trunk frame does not begin with a recessive bit (R3). -/
theorem test_recessive_start_refused :
    (Instr.trunkEndOfFrame (true :: frameA.lineLevels false)).wellFormed = false := by decide +kernel

theorem test_sent_without_levels_refused : (Instr.outcomeSent []).wellFormed = false := by decide

theorem test_lost_without_levels_refused : (Instr.outcomeLost []).wellFormed = false := by decide

theorem test_fault_without_levels_refused : (Instr.outcomeFault []).wellFormed = false := by decide

/-- A LEN byte of 2 to 250 is none that BAD_LENGTH names (R135). -/
theorem test_good_length_refused :
    (Instr.badLength 2#8).wellFormed = false ∧ (Instr.badLength 250#8).wellFormed = false := by decide

theorem test_well_formed_accepted :
    (Instr.tapEndOfFrame 0 (frameA.lineLevels false)).wellFormed = true ∧ (Instr.badLength 251#8).wellFormed = true ∧
      (Instr.outcomeLost readLost).wellFormed = true := by decide +kernel

/-! ## Lines -/

/-- The published check value of the check of R134, over the ASCII digits 1 to 9: 29B1h. -/
theorem test_message_check_value :
    messageCheck [0x31#8, 0x32#8, 0x33#8, 0x34#8, 0x35#8, 0x36#8, 0x37#8, 0x38#8, 0x39#8] = 0x29B1#16 := by decide +kernel

/-- The published check value of the check of R1, over the same digits: D0DBh. -/
theorem test_frame_check_value :
    frameCheck (bytesToBits [0x31#8, 0x32#8, 0x33#8, 0x34#8, 0x35#8, 0x36#8, 0x37#8, 0x38#8, 0x39#8]) = 0xD0DB#16 := by
  decide +kernel

/-- Tag 000001h: the start delimiter and four tag bits are a run of five, so a recessive bit follows, and it begins the next
run: five more tag bits pass before the next inserted bit (R1). -/
theorem test_level_change_bits :
    ((Frame.lineLevels ⟨1#24, .query, 0, []⟩ true).take 13) =
      [false, false, false, false, false, true, false, false, false, false, false, true, false] := by decide +kernel

/-- The levels of a frame whose check is wrong, up to the last check bit, where it ends (R4). -/
def badCheckLevels : List Level :=
  let wrong := { frameA with tag := 0x000121#24 }.codedBits.take 65 ++ frameA.codedBits.drop 65
  ((insertLevelChanges true 0 wrong).reverse.dropWhile fun b => b.role == .levelChange).reverse.map SentBit.level

theorem test_wrong_check_found : receive badCheckLevels = some .invalidCheck := by decide +kernel

/-! ## Resets -/

theorem test_power_reset_samples_straps :
    (after run (.powerReset true false)).line.rate = .bit921600 ∧ (after run (.powerReset true false)).part = .booting := by
  decide +kernel

theorem test_memory_check_enters_config :
    (after State.reset (.memoryCheckCompleted true)).part = .config ∧
      told (after State.reset (.memoryCheckCompleted true)) = [.partState .config] := by decide +kernel

theorem test_memory_check_repeats : (after State.reset (.memoryCheckCompleted false)).part = .booting := by decide +kernel

/-! ## Taps -/

/-- The pool of section 2.14: free count 7, two entries PENDING, use 40 / 38 / 9 of quota 40 / 40 / 16. -/
def pool : State :=
  let pending (s : State) (e : EntryNo) : State := withEntry s e ⟨.pending, some 0, 0, false, none⟩
  { pending (pending (withTap (withTap run 0 ⟨.listen, true, 12, none, false⟩) 1 ⟨.listen, true, 12, none, false⟩) 0) 1 with
    trunk := { port .active with synchronised := true, idleCount := 12 }
    store := { run.store with
      freeList := run.store.freeList.drop 89
      use := ((run.store.use.set 0 40).set 1 38).set 6 9
      quota := ((run.store.quota.set 0 40).set 1 40).set 6 16 } }

/-- Section 2.14: quota 38 < 40 and pool 7 > 6 hold, the front free slot is taken. -/
theorem test_tap_start_granted :
    ((after pool (.tapStartOfFrame 1)).store.freeList.length, (after pool (.tapStartOfFrame 1)).store.use.get 1) = (6, 39) ∧
      (after pool (.tapStartOfFrame 1)).store.slot 89 = .filling 1 := by decide +kernel

/-- Section 2.14: quota 40 < 40 fails. -/
theorem test_tap_start_over_quota :
    ((after pool (.tapStartOfFrame 0)).tap 0).inProgress = some (.unstored .overQuota) := by decide +kernel

/-- Section 11.1: the frame at T2 takes number 904, its tag out is 200345h, window 3 of generation 42 sends it to both queues. -/
theorem test_tap_end_classified :
    let bits := Frame.lineLevels ⟨0x000345#24, .data, 12, List.replicate 12 0#8⟩ false
    (after receiving (.tapEndOfFrame 2 bits)).store.slot 17 =
      .held (.ingress 2)
        { seq := some 904, tagReceived := 0x000345#24, tagOut := 0x200345#24, kind := .data, length := 12
          payload := List.replicate 12 0#8, stamp := 5000000, classified := some ⟨42, 3⟩ }
        { relay := true, delivery := true } ∧
    (after receiving (.tapEndOfFrame 2 bits)).relay.queue = [17] := by decide +kernel

/-- Section 3.12, frame B: an invalid check takes the tap to SYNC with reason CHECK and frees the slot. -/
theorem test_tap_end_invalid :
    told (after receiving (.tapEndOfFrame 2 badCheckLevels)) = [.tapState 2 .syncCheck] ∧
      (after receiving (.tapEndOfFrame 2 badCheckLevels)).store.slot 17 = .free := by decide +kernel

/-- Section 3.12: after 12 recessive bit times a tap in SYNC is in LISTEN and synchronised, with an event. -/
theorem test_tap_idle_gap :
    let s := after (withTap run 3 ⟨.sync, false, 0, none, false⟩) (.tapIdleGap 3)
    ((s.tap 3).state, (s.tap 3).synchronised, told s) = (.listen, true, [.tapState 3 .listen]) := by decide +kernel

/-- Section 3.12: a tap in LISTEN is synchronised again without an event. -/
theorem test_tap_resynchronised :
    let s := after (withTap run 3 ⟨.listen, false, 0, none, false⟩) (.tapResynchronised 3)
    ((s.tap 3).state, (s.tap 3).synchronised, told s) = (.listen, true, []) := by decide +kernel

/-! ## The trunk -/

/-- Section 2.14, after T1's frame: quota 9 < 16 holds, pool 6 > 6 fails. -/
theorem test_trunk_start_no_slot :
    (after (after pool (.tapStartOfFrame 1)) .trunkStartOfFrame).trunk.inProgress = some (.unstored .noSlot) := by
  decide +kernel

/-- The port of section 6.12: DEGRADED with five faults in sixteen, a foreign frame in slot 30, the DETACH parked. -/
def detaching : State :=
  let s := withSlot run 30 (.filling 6)
  { s with
    ingresses := s.ingresses.set 6 { Ingress.initial with nextSeq := 500 }
    engine := { s.engine with parked := [⟨.detach, 0x40#8, 0x1111#16, 5⟩] }
    trunk := { port .degraded with
      detachPending := true, parkedDetach := true, inProgress := some (.stored 30 99)
      history := List.replicate 5 .fault ++ List.replicate 11 .sent } }

/-- Section 6.12: the frame is acknowledged and numbered, the port is DETACHED, the reply carries 501. -/
theorem test_trunk_end_detaches :
    let s := after detaching (.trunkEndOfFrame (frameC.lineLevels false))
    answered s = some (.ok, 0, [0x00#8, 0x01#8, 0xF5#8]) ∧ told s = [.trunkState .detached 0] ∧
      s.trunk.acknowledged = true := by decide +kernel

/-- R116: an invalid trunk frame leaves the port's state unchanged and stores no event. -/
theorem test_trunk_end_invalid :
    let s := after { detaching with trunk := { detaching.trunk with detachPending := false, parkedDetach := false } }
      (.trunkEndOfFrame badCheckLevels)
    (s.trunk.state, told s, (s.ingress 6).counters.invalidCheck) = (.degraded, [], 1) := by decide +kernel

theorem test_trunk_joins :
    let s := after (withTrunk run (port .joining)) .trunkJoinIdleGap
    (s.trunk.state, s.trunk.synchronised, told s) = (.active, true, [.trunkState .active 0]) := by decide +kernel

theorem test_trunk_resynchronised :
    (after (withTrunk run (port .suspended)) .trunkReceiverResync).trunk.synchronised = true := by decide +kernel

/-- The relay head and the entries of section 11.2, Y = 2. -/
def contending (passOvers : Byte) : State :=
  let s := withSlot run 5 (.held (.ingress 1) (recordOf 0x300020#24) ⟨true, false, false⟩)
  let s := pendingEntry (pendingEntry s 3 6 0x100000#24 .pending 0) 6 7 0x100000#24 .pending 0
  { s with
    relay := { Relay.initial with queue := [5], head := some ⟨0, passOvers, false⟩, yieldLimit := 2 }
    trunk := { port .active with synchronised := true, idleCount := 12 } }

/-- Section 11.2, opportunity 1: equal tags, the lower index E3 goes first and the head is passed over. -/
theorem test_arbiter_takes_lower_entry :
    let s := after (contending 0) .transmitOpportunity
    (s.trunk.inFlight, s.relay.headRecord.passOvers, (s.entry 3).state) = (some (.entry 3), 1, .inFlight) := by decide +kernel

/-- Section 11.2, opportunity 3: two pass-overs reach Y = 2, so the head is forced. -/
theorem test_arbiter_forces_head :
    let s := after (contending 2) .transmitOpportunity
    (s.trunk.inFlight, s.relay.headRecord.passOvers) = (some .relayHead, 2) := by decide +kernel

/-- R9: after the part's own SENT the next attempt and the next start of frame wait for a new idle gap. -/
def sentHead : State := after (sending relaying .relayHead) (.outcomeSent (frameA.lineLevels false))

theorem test_new_gap_after_own_frame :
    after sentHead .transmitOpportunity = sentHead ∧ after sentHead .trunkStartOfFrame = sentHead ∧
      (after (after sentHead .trunkReceiverResync) .transmitOpportunity).trunk.inFlight = some .relayHead := by decide +kernel

/-- The entry of section 5.15: IN_FLIGHT with attempts 1, and whether a CANCEL came. -/
def racing (cancelled : Bool) : State :=
  let s := sending { pendingEntry run 2 8 0x000500#24 .inFlight 1 with trunk := port .active } (.entry 2)
  withEntry s 2 { s.entry 2 with cancelRequested := cancelled }

/-- Section 5.15: a SENT wins against the CANCEL. -/
theorem test_sent_after_cancel :
    let s := after (racing true) (.outcomeSent (frameA.lineLevels false))
    s.txDone = [⟨2, .sent, 2, 0x000500#24, 77⟩] ∧ (s.entry 2).state = .done ∧ s.trunk.history = [.sent] := by decide +kernel

/-- Section 5.15: a LOST leaves the attempts at 1 and makes the entry CANCELLED. -/
theorem test_lost_after_cancel :
    let s := after (racing true) (.outcomeLost readLost)
    ((s.entry 2).outcome, (s.entry 2).attempts, s.trunk.history) = (some .cancelled, 1, []) := by decide +kernel

/-- Section 11.2, opportunity 2: the entry is PENDING again, attempts 0, and the winner's frame is followed. -/
theorem test_lost_is_retried :
    let s := after (racing false) (.outcomeLost readLost)
    (s.entry 2).state = .pending ∧ s.trunk.inProgress = some (.stored 0 0) := by decide +kernel

/-- The head of section 11.3 with three faults behind it, L = 3. -/
def failing (flush : Bool) : State :=
  let s := sending relaying .relayHead
  { s with
    relay := { s.relay with head := some ⟨3, 0, flush⟩ }
    trunk := { s.trunk with history := List.replicate 13 .sent ++ List.replicate 3 .fault } }

/-- Section 11.3, FAULT 4: RELAY_ABANDON RETRIES with attempts 4, then TRUNK_STATE DEGRADED with f 4. -/
theorem test_fault_abandons_head :
    told (after (failing false) (.outcomeFault (frameA.lineLevels true))) =
      [.relayAbandon .retries (.ingress 1) 70 0x300040#24 4, .trunkState .degraded 4] := by decide +kernel

/-- Section 5.14: a flush-pending head is abandoned FLUSHED; its slot keeps DELIVERY, and the next entry is head. -/
theorem test_fault_flushes_head :
    let s := after (failing true) (.outcomeFault (frameA.lineLevels true))
    s.relay.queue = [9] ∧ (s.store.slot 5).holders = ⟨false, true, false⟩ := by decide +kernel

/-! ## The host line -/

/-- Section 7.7: a framing error in LENGTH discards the false message and counts it. -/
theorem test_framing_error :
    let s := { run.line with hunter := ⟨.length, [0xA5#8], 0, none⟩, linkErrors := 3 }
    let t := after { run with line := s } .framingError
    (t.line.hunter, t.line.linkErrors) = (Hunter.initial, 4) := by decide +kernel

theorem test_bad_length :
    (after (withHunter run ⟨.length, [0xA5#8], 0, none⟩) (.badLength 251#8)).line.linkErrors = 1 := by decide +kernel

theorem test_gap_expiry :
    (after (withHunter run ⟨.collect, [0xA5#8, 5#8], 5, none⟩) .gapExpiry).line.linkErrors = 1 ∧
      after run .gapExpiry = run := by decide +kernel

/-- The bytes of section 12.7 from SYNC to BODY, the 17-byte body of a SET_WINDOW with SEQ 31h. -/
def wire : List Byte :=
  [0xA5#8, 0x13#8, 0x01#8, 0x31#8, 0x20#8, 0x02#8, 0x00#8, 0x01#8, 0x00#8, 0x01#8, 0x00#8, 0xFF#8, 0xFF#8, 0x00#8] ++
    [0x01#8, 0x08#8, 0x03#8, 0x01#8, 0x20#8, 0x01#8, 0x00#8]

/-- Section 12.7: LEN 13h takes the message to its second CHECK byte, and the request arrives with its 17-byte body. -/
theorem test_message_received :
    let check := messageCheck (wire.drop 1)
    let high := check.extractLsb' 8 8
    let s := withHunter run ⟨.check, wire ++ [high], 0, some high⟩
    (after s (.messageReceived (check.extractLsb' 0 8))).engine.inbox = [⟨0x31#8, check, wire.drop 4⟩] := by decide +kernel

theorem test_message_discarded :
    let s := withHunter run ⟨.check, wire ++ [0#8], 0, some 0#8⟩
    (after s (.messageReceived 0#8)).line.linkErrors = 1 := by decide +kernel

/-- R141, R149: the session ends and what was SENT waits again. -/
theorem test_line_break :
    let s := after (capturing [.sent, .waiting]) .lineBreak
    (s.engine.session, s.delivery.queue.map DeliveryEntry.state, s.delivery.window) = (.closed, [.waiting, .waiting], 0) := by
  decide +kernel

/-- Section 7.7: a stray A5h is taken as a SYNC; the next byte of LENGTH 5 begins a collection of 5 bytes. -/
theorem test_byte_received :
    (after run (.byteReceived 0xA5#8)).line.hunter = ⟨.length, [0xA5#8], 0, none⟩ ∧
      (after (after run (.byteReceived 0xA5#8)) (.byteReceived 5#8)).line.hunter.toCollect = 5 := by decide +kernel

/-- Section 9.11: a TX_DONE record for E1 goes before any capture. -/
def reporting : State :=
  { capturing [.waiting, .waiting] with txDone := [⟨1, .sent, 1, 0x000500#24, 77⟩] }

/-- Its bytes by section 12.4: SYNC, LEN 12, TYPE 83h, epoch 5; entry 1, SENT, attempts 1, the tag and the stamp 77. -/
theorem test_outbound_takes_tx_done :
    (after reporting .outboundChoice).line.htx.map (fun m => (m.kind, m.bytes.take 14)) =
      some (.txDone, [0xA5#8, 0x0C#8, 0x83#8, 5#8] ++ [1#8, 0#8, 1#8, 0#8, 5#8, 0#8, 0#8, 0#8, 0#8, 77#8]) := by decide +kernel

/-- Section 11.1: capture 118 of the frame at T2 starts and is SENDING. Its bytes by section 12.4: LEN 34, TYPE 82h, epoch 5; 118,
ingress 2, 904, 000345h, 200345h, DATA, length 12, stamp 5000000, generation 42, window 3, the payload. -/
theorem test_outbound_takes_capture :
    let bits := Frame.lineLevels ⟨0x000345#24, .data, 12, List.replicate 12 6#8⟩ false
    let s := after { receiving with delivery := ⟨[], 118, 4⟩ } (.tapEndOfFrame 2 bits)
    let t := after s .outboundChoice
    t.delivery.queue.map DeliveryEntry.state = [.sending] ∧
      t.line.htx.map (fun m => m.bytes.take 36) =
        some ([0xA5#8, 34#8, 0x82#8, 5#8] ++ [0#8, 118#8, 2#8, 0x03#8, 0x88#8, 0#8, 3#8, 0x45#8, 0x20#8, 3#8, 0x45#8, 1#8, 12#8] ++
          [0#8, 0x4C#8, 0x4B#8, 0x40#8, 0#8, 42#8, 3#8] ++ List.replicate 12 6#8) := by
  decide +kernel

/-- Section 12.4: a QUERY's capture ends with the window index; a RELAY_ABANDON of a T1 head fills all 17 bytes; a TAP_STATE OFF of
T5 after a loss of 300 events has reason 00h and unused bytes 00h; a PART_STATE has subject FFh. -/
theorem test_notice_bodies :
    let asked := { recordOf 0x345#24 with kind := .query, length := 2, payload := [] }
    captureBody 41 (.ingress 1) asked =
        [0#8, 41#8, 1#8, 0#8, 70#8, 0#8, 3#8, 0x45#8, 0#8, 3#8, 0x45#8, 2#8, 2#8, 0#8, 0#8, 0#8, 77#8, 0#8, 0#8, 0#8] ∧
      EventRecord.body ⟨300, .relayAbandon .retries (.ingress 1) 70 0x300040#24 4, 77⟩ 0 =
        [1#8, 44#8, 0#8, 0#8, 5#8, 1#8, 0#8, 0#8, 0#8, 77#8, 1#8, 0#8, 70#8, 0x30#8, 0#8, 0x40#8, 4#8] ∧
      EventRecord.body ⟨1, .tapState 5 .off, 77⟩ 300 =
        [0#8, 1#8, 1#8, 44#8, 2#8, 5#8, 0#8, 0#8, 0#8, 77#8, 0#8, 0#8, 0#8, 0#8, 0#8, 0#8, 0#8] ∧
      EventRecord.body ⟨0, .partState .run, 7⟩ 0 =
        [0#8, 0#8, 0#8, 0#8, 1#8, 0xFF#8, 0#8, 0#8, 0#8, 7#8, 2#8, 0#8, 0#8, 0#8, 0#8, 0#8, 0#8] := by decide +kernel

/-- The state with a message of a class on HTX. -/
def onHtx (s : State) (kind : MessageClass) : State := { s with line := { s.line with htx := some ⟨kind, []⟩ } }

/-- R191: at the completion of the RESET reply the part is BOOTING with the quotas it had. -/
theorem test_reset_reply_completes :
    let reply : Reply := ⟨0x31#8, 0x05#8, .ok, 0, []⟩
    let s := onHtx { pool with line := { pool.line with replies := [reply] } } .reply
    let t := after s (.replyCompleted true true)
    (t.part, t.store.quota.get 0, t.line.rate) = (.booting, 40, .bit2000000) := by decide +kernel

theorem test_reply_leaves :
    let reply : Reply := ⟨0x31#8, 0x03#8, .ok, 0, [2#8]⟩
    let s := onHtx { run with line := { run.line with replies := [reply] } } .reply
    (after s (.replyCompleted false false)).line.replies = [] := by decide +kernel

/-- Section 9.11: a completed capture is SENT. -/
theorem test_capture_completed :
    (after (onHtx (capturing [.sending, .waiting]) .capture) .captureCompleted).delivery.queue.map DeliveryEntry.state =
      [.sent, .waiting] := by decide +kernel

/-- Section 9.11: at the completion of its TX_DONE notice E1 becomes FREE. -/
theorem test_tx_done_completed :
    let s := withEntry (onHtx reporting .txDone) 1 ⟨.done, none, 1, false, some .sent⟩
    ((after s .txDoneCompleted).entry 1).state = .free := by decide +kernel

theorem test_event_completed :
    let s := onHtx { run with events := (run.events.push (.partState .run) 7).push (.partState .stopping) 8 } .event
    told (after s .eventCompleted) = [.partState .stopping] := by decide +kernel

/-! ## Requests -/

theorem test_bad_request_code :
    answered (after (asks run [0x06#8]) .badRequest) = some (.badRequest, 0, []) := by decide +kernel

/-- Section 8.14: the first HELLO opens the session with epoch 1. -/
theorem test_hello_opens :
    let s := after (asks config [0x01#8]) .hello
    (s.engine.session, answered s) =
      (.opened, some (.ok, 0, [0x0A#8, 0x31#8, 0x06#8, 0x27#8, 0x03#8, 96#8, 6#8, 8#8, 64#8, 32#8, 1#8])) := by decide +kernel

/-- Section 12.3: STATUS of the part has 29 bytes after the header, of an ingress 39. -/
theorem test_status_lengths :
    ((answered (after (asks run [0x02#8, 0xFF#8]) .status)).map fun r => r.2.2.length) = some 29 ∧
      ((answered (after (asks run [0x02#8, 6#8]) .status)).map fun r => r.2.2.length) = some 39 := by decide +kernel

theorem test_start :
    let s := after (asks config [0x03#8]) .start
    (s.part, answered s, told s) = (.run, some (.ok, 0, [2#8]), [.partState .run]) := by decide +kernel

/-- Section 11.5 in small: T1 receives a frame and closes, T4 is OFF at once, the request is parked. -/
theorem test_stop_closes :
    let s := withSlot (withTap (withTap run 1 (following .listen 30 false)) 4 ⟨.listen, true, 12, none, false⟩) 30 (.filling 1)
    let t := after (asks s [0x04#8]) .stop
    told t = [.partState .stopping, .tapState 1 .closing, .tapState 4 .off] ∧ t.stop = some ⟨[1], false⟩ := by decide +kernel

theorem test_reset_is_pending :
    (after (asks run [0x05#8]) .reset).engine.resetPending = true := by decide +kernel

/-- A STOP and a RESET wait in the inbox; T1 may be receiving a frame. -/
def stopAndReset (receives : Bool) : State :=
  let s := if receives then withSlot (withTap run 1 (following .listen 30 false)) 30 (.filling 1) else run
  { s with engine := { s.engine with inbox := [heard [0x04#8], ⟨0x32#8, 0x1235#16, [0x05#8]⟩] } }

/-- The STOP completed by T1's frame while the RESET could be executed. -/
def overtaking : State := after (after (stopAndReset true) .stop) (.tapEndOfFrame 1 (frameA.lineLevels false))

/-- R194: the RESET reply 05h goes before the STOP reply 04h, whichever of the two is taken first; not before one that is on HTX
(R190), nor where STOP completes within its own execution (R188, R153). -/
theorem test_reset_overtakes_stop :
    let codes (s : State) : List Byte := s.line.replies.map Reply.code
    overtaking.part = .config ∧ codes overtaking = [0x04#8] ∧ codes (after overtaking .reset) = [0x05#8, 0x04#8] ∧
      codes (after (after (after (stopAndReset true) .stop) .reset) (.tapEndOfFrame 1 (frameA.lineLevels false))) =
        [0x05#8, 0x04#8] ∧
      codes (after (after overtaking .outboundChoice) .reset) = [0x04#8, 0x05#8] ∧
      codes (after (after (stopAndReset false) .stop) .reset) = [0x04#8, 0x05#8] := by decide +kernel

/-- Section 3.12: SET_TAP (3, 250, EOF). -/
theorem test_set_tap :
    let s := after (asks run [0x10#8, 3#8, 1#8, 1#8]) .setTap
    (answered s, (s.ingress 3).rate, (s.ingress 3).stampPoint) = (some (.ok, 0, [3#8, 1#8, 1#8]), .kbit250, .eof) := by
  decide +kernel

/-- Section 3.12: OPEN_TAP (3). -/
theorem test_open_tap :
    let s := after (asks run [0x11#8, 3#8]) .openTap
    (answered s, told s) = (some (.ok, 0, [3#8, 1#8]), [.tapState 3 .syncOpened]) := by decide +kernel

/-- Section 3.12: a CLOSE_TAP while a frame arrives is parked and stores TAP_STATE CLOSING. -/
theorem test_close_tap_parks :
    let s := after (asks receiving [0x12#8, 2#8]) .closeTap
    (answered s, told s, s.engine.parked.map Parked.subject) = (none, [.tapState 2 .closing], [.closeTap 2]) := by
  decide +kernel

/-- Section 8.13: SET_QUOTA (2, 24). -/
theorem test_set_quota :
    answered (after (asks run [0x13#8, 2#8, 24#8]) .setQuota) = some (.ok, 0, [2#8, 24#8, 0#8]) := by decide +kernel

/-- Section 12.7: the reply to the SET_WINDOW, with the generation at 41. -/
theorem test_set_window :
    let s := { run with ingresses := run.ingresses.set 2 { Ingress.initial with generation := 41 } }
    let t := after (asks s (wire.drop 4)) .setWindow
    answered t = some (.ok, 0, [2#8, 0#8, 0#8, 0x29#8]) ∧ (t.ingress 2).staged.windows.get 0 = (tableOf .host).windows.get 0 := by
  decide +kernel

theorem test_set_default :
    let s := after (asks run [0x21#8, 6#8, 2#8]) .setDefault
    (answered s, (s.ingress 6).staged.default) = (some (.ok, 0, [6#8, 0#8, 0#8]), .host) := by decide +kernel

/-- READ_WINDOW of the active window 3 of section 4.9. -/
theorem test_read_window :
    answered (after (asks receiving [0x22#8, 2#8, 0#8, 3#8]) .readWindow) =
      some (.ok, 0, [2#8, 0#8, 3#8, 0#8, 42#8] ++ [1#8, 0#8, 0#8, 0#8, 0xF0#8, 0#8, 0#8, 3#8, 32#8, 3#8, 1#8, 0x20#8, 0#8, 0#8]) := by
  decide +kernel

/-- The edit of section 4.10, not yet committed. -/
def edited : State :=
  { run with ingresses :=
      run.ingresses.set 2 { Ingress.initial with active := tableOf .host, staged := tableOf .both, generation := 41 } }

/-- Section 4.10: COMMIT (2) answers OK (2, 42). -/
theorem test_commit :
    let s := after (asks edited [0x23#8, 2#8]) .commit
    answered s = some (.ok, 0, [2#8, 0#8, 42#8]) ∧ ((s.ingress 2).active.windows.get 3).targets = .both := by decide +kernel

theorem test_discard_staged :
    let s := after (asks edited [0x24#8, 2#8]) .discardStaged
    answered s = some (.ok, 0, [2#8]) ∧ ((s.ingress 2).staged.windows.get 3).targets = .host := by decide +kernel

/-- Section 11.3: SET_RELAY (8, 3, on). -/
theorem test_set_relay :
    let s := after (asks run [0x30#8, 8#8, 3#8, 1#8]) .setRelay
    (answered s, s.relay.inDegraded) = (some (.ok, 0, [8#8, 3#8, 1#8]), true) := by decide +kernel

theorem test_hold_relay : (after (asks run [0x31#8]) .holdRelay).relay.gate = .held := by decide +kernel

theorem test_release_relay :
    answered (after (asks run [0x32#8]) .releaseRelay) = some (.ok, 0, [0#8]) := by decide +kernel

/-- Section 5.14 in small: the head in flight stays, flush-pending; the other entry leaves and its slot is released. -/
theorem test_flush_keeps_head :
    let s := after (asks (sending relaying .relayHead) [0x33#8]) .flushRelay
    (answered s, s.relay.queue, s.relay.headRecord.flushPending, s.store.slot 9) = (some (.ok, 0, [1#8]), [5], true, .free) := by
  decide +kernel

/-- Section 2.14: the SEND takes the front free slot. -/
theorem test_send :
    let s := after (asks pool [0x34#8, 5#8, 0#8, 5#8, 0#8, 1#8, 1#8, 9#8]) .send
    (answered s, (s.entry 5).state, s.store.freeList.length) = (some (.ok, 0, [5#8, 0#8, 0#8, 0#8, 0#8]), .pending, 6) := by
  decide +kernel

/-- R195: a SEND whose kind is ANY and which has no payload is refused with BAD_VALUE, detail 3. -/
theorem test_send_any_refused :
    answered (after (asks pool [0x34#8, 5#8, 0#8, 5#8, 0#8, 3#8, 1#8]) .send) = some (.badValue, 3, []) := by decide +kernel

/-- Section 5.15: CANCEL (2) of an entry IN_FLIGHT is answered DEFERRED. -/
theorem test_cancel :
    answered (after (asks (racing false) [0x35#8, 2#8]) .cancel) = some (.deferred, 0, [2#8]) := by decide +kernel

theorem test_set_trunk :
    answered (after (asks run [0x40#8, 3#8, 1#8]) .setTrunk) = some (.ok, 0, [3#8, 1#8]) := by decide +kernel

theorem test_attach :
    let s := after (asks run [0x41#8]) .attach
    (answered s, told s) = (some (.ok, 0, [1#8]), [.trunkState .joining 0]) := by decide +kernel

/-- Section 12.3: a DETACH answered at once carries DETACHED and the next sequence number of ingress 6. -/
theorem test_detach_at_once :
    answered (after (asks run [0x42#8]) .detach) = some (.ok, 0, [0#8, 0#8, 0#8]) := by decide +kernel

theorem test_resume :
    let s := after (asks (withTrunk run (port .suspended)) [0x43#8]) .resume
    (answered s, s.trunk.state) = (some (.ok, 0, [1#8]), .joining) := by decide +kernel

theorem test_grant :
    answered (after (asks (capturing [.sent, .waiting]) [0x50#8, 16#8]) .grant) = some (.ok, 0, [16#8, 1#8]) := by decide +kernel

/-- Section 11.4: ACK 41 answers OK (41, 2, 2). -/
theorem test_ack :
    let s := after (asks (capturing [.sent, .sent, .sent, .sent]) [0x51#8, 0#8, 41#8]) .ack
    (answered s, s.delivery.queue.map DeliveryEntry.number) = (some (.ok, 0, [0#8, 41#8, 2#8, 2#8]), [42, 43]) := by decide +kernel

/-- Section 11.4: an ACK of a capture that waits again is refused with BAD_VALUE, detail 1. -/
theorem test_ack_of_waiting :
    answered (after (asks (capturing [.waiting, .waiting]) [0x51#8, 0#8, 41#8]) .ack) = some (.badValue, 1, []) := by decide +kernel

/-- Section 11.4: RESEND answers OK (2, no). -/
theorem test_resend :
    answered (after (asks (capturing [.sent, .sent]) [0x52#8]) .resend) = some (.ok, 0, [2#8, 0#8]) := by decide +kernel

theorem test_discard_captures :
    answered (after (asks (onHtx (capturing [.sent, .sending]) .capture) [0x53#8]) .discardCaptures) =
      some (.ok, 0, [1#8, 1#8]) := by decide +kernel

/-! ## What meets the hypotheses of the statements

One theorem for each statement that has hypotheses, with one line for each of its clauses, at a boundary of its range where
it has one. -/

/-- A lawful RUN state: T1 receives a frame in slot 0, E0 is PENDING with slot 1, slot 2 holds a T0 frame that both queues
name, SENT as capture 7. -/
def working : State :=
  let s := withSlot (withSlot (pendingEntry run 0 1 0x000500#24 .pending 0) 0 (.filling 1)) 2
    (.held (.ingress 0) (recordOf 0x300040#24) ⟨true, true, false⟩)
  { withTap s 1 (following .listen 0 false) with
    store := { s.store with freeList := s.store.freeList.drop 3, use := (s.store.use.set 1 1).set 0 1 }
    relay := { s.relay with queue := [2], head := some .fresh }
    delivery := ⟨[⟨2, 7, .sent, .none⟩], 8, 1⟩
    trunk := { port .active with synchronised := true, idleCount := 12 } }

theorem working_lawful : working.Lawful := by constructor <;> decide +kernel

theorem witness_StepRunsFrontCommand :
    ({ working with pending := [.transmitOpportunity, .stop] } : State).pending = .transmitOpportunity :: [.stop] := rfl

theorem witness_EmptyQueueCountsMicrosecond :
    working.pending = [] ∧ working.stamp.toNat ≠ 4294967295 ∧
      ({ working with stamp := 0xFFFFFFFF#32 } : State).stamp.toNat = 4294967295 := by decide +kernel

theorem witness_CommandsWaitUntouched :
    exec .lineBreak { working with pending := [.stop] } = .next (after { working with pending := [.stop] } .lineBreak) :=
  answers _ _ (by decide +kernel)

/-- A SEND with a free list that is empty, which no reachable state has; and a lawful state. -/
theorem witness_OnlySendCouldStop :
    exec .send (asks { run with store := { run.store with freeList := [] } } [0x34#8, 5#8, 0#8, 5#8, 0#8, 2#8, 1#8]) =
        .fault .sendFoundNoSlot ∧
      working.Lawful :=
  ⟨by rfl, working_lawful⟩

/-- A state that keeps every law, and a step from it that changes much: T1's frame ends valid and is classified. -/
theorem witness_StepKeepsLaws :
    let s := { working with pending := [.tapEndOfFrame 1 (frameA.lineLevels false)] }
    s.Lawful ∧ step s = .next (after working (.tapEndOfFrame 1 (frameA.lineLevels false))) := by
  refine ⟨by constructor <;> decide +kernel, ?_⟩
  exact answers working (.tapEndOfFrame 1 (frameA.lineLevels false)) (by decide +kernel)

/-- The laws that have statements of their own, at their bounds: 16 events, 32 captures of which 16 are outstanding, f 3 in
ACTIVE, 11 in DEGRADED and 12 in SUSPENDED. -/
theorem witness_StepKeepsEachLaw :
    working.TablesLawful ∧
      ({ working with store := { working.store with quota := working.store.quota.set 0 88 } } : State).SettingsInRange ∧
      (capturing (List.replicate 32 .waiting)).QueuesBounded ∧
      ({ run with events := (List.range 17).foldl (fun q k => q.push (.relayStopped k) 0) run.events }
        : State).EventNumbersConsecutive ∧
      (withTrunk run { port .active with history := List.replicate 3 .fault }).HealthJudged ∧
      (withTrunk run { port .degraded with history := List.replicate 11 .fault }).HealthJudged ∧
      (withTrunk run { port .suspended with history := List.replicate 12 .fault }).HealthJudged ∧
      (capturing (List.replicate 16 .sent ++ List.replicate 16 .waiting)).DeliveryLawful ∧
      run.SessionLawful ∧ config.SessionLawful := by and_intros <;> decide +kernel

theorem witness_MemoryCheckEntersConfig : State.reset.part = .booting ∧ config.part ≠ .booting := by decide

theorem witness_ResetReplyCompletionIsSoftReset :
    let reply : Reply := ⟨0x31#8, 0x05#8, .ok, 0, []⟩
    let s := onHtx { working with line := { working.line with replies := [reply] } } .reply
    s.line.htx = some ⟨.reply, []⟩ ∧ s.line.replies = reply :: [] ∧ reply.code = 0x05#8 ∧ reply.status = .ok := by
  decide +kernel

/-- 15 records leave room for one more, 16 do not; a latch that is clear and one that is set. -/
theorem witness_EventsAndLossesRecorded :
    ((List.range 15).foldl (fun q k => q.push (.relayStopped k) 0) run.events).queue.length < 16 ∧
      16 ≤ ((List.range 16).foldl (fun q k => q.push (.relayStopped k) 0) run.events).queue.length ∧
      (run.ingress 6).dropsLatch = false ∧ (((after pool (.tapStartOfFrame 0)).countDrop 0 .overQuota).ingress 0).dropsLatch = true := by
  decide +kernel

/-- A slot with another holder left, a slot with none left of an ingress, and one of a host entry. -/
theorem witness_LastHolderReleasesSlot :
    relaying.store.slot 5 = .held (.ingress 1) (recordOf 0x300040#24) ⟨true, true, false⟩ ∧
      relaying.store.slot 9 = .held (.ingress 1) (recordOf 0x300041#24) ⟨true, false, false⟩ ∧
      (racing false).store.slot 8 = .held .host (hostRecordOf 0x000500#24) ⟨false, false, true⟩ := by decide +kernel

/-- Section 4.9: frame a hits window 0, length 8 at its bound; with length 9 it hits window 3; tag 4A0010h hits none. -/
theorem witness_FirstHitPlacesFrame :
    let hits (f : Frame) (w : Window) : Bool :=
      w.enabled && f.tag &&& w.mask == w.matchTag && (w.kinds == .any || w.kinds.code == f.kind.code) && f.length ≤ w.longest
    hits ⟨0x000120#24, .data, 8, []⟩ ((tableOf .host).windows.get 0) = true ∧
      hits ⟨0x000120#24, .data, 9, []⟩ ((tableOf .host).windows.get 3) = true ∧
      (∀ j : WindowNo, j < 3 → hits ⟨0x000120#24, .data, 9, []⟩ ((tableOf .host).windows.get j) = false) ∧
      ∀ k : WindowNo, hits ⟨0x4A0010#24, .data, 1, []⟩ ((tableOf .host).windows.get k) = false := by decide +kernel

/-- A queue with room for one more entry and a full one, for the relay queue and the delivery queue, and the four targets. -/
def nearlyFull (relay delivery : Nat) : State :=
  { receiving with
    relay := { receiving.relay with queue := List.replicate relay 0 }
    delivery := { receiving.delivery with queue := List.replicate delivery ⟨0, 0, .waiting, .none⟩ } }

theorem witness_ClassificationResults :
    (nearlyFull 63 31).store.slot 17 = .filling 2 ∧ (nearlyFull 63 31).relay.queue.length < 64 ∧
      (nearlyFull 63 31).delivery.queue.length < 32 ∧ ¬ (nearlyFull 64 32).relay.queue.length < 64 ∧
      ¬ (nearlyFull 64 32).delivery.queue.length < 32 ∧
      ((tableOf .relay).place frameA).target = .both ∧ ((tableOf .relay).place frameC).target = .drop ∧
      ((tableOf .relay).place { frameA with length := 12 }).target = .relay ∧
      ((tableOf .host).place { frameA with length := 12 }).target = .host := by decide +kernel

theorem witness_EndOfFrameHandled :
    receiving.FillingFor 2 (.stored 17 5000000#32) ∧ receiving.FillingFor 2 (.unstored .overQuota) ∧
      receiving.FillingFor 2 (.unstored .noSlot) := by
  and_intros <;> decide +kernel

theorem witness_EntryDoneReportsAndReleases :
    ((racing true).entry 2).slot = some 8 ∧
      (racing true).store.slot 8 = .held .host (hostRecordOf 0x000500#24) ⟨false, false, true⟩ := by decide +kernel

theorem witness_HeadAbandonedWithEvent :
    (failing true).relay.queue = 5 :: [9] ∧ (failing true).relay.head = some ⟨3, 0, true⟩ ∧
      (failing true).store.slot 5 = .held (.ingress 1) (recordOf 0x300040#24) ⟨true, true, false⟩ ∧
      (recordOf 0x300040#24).seq = some 70 := by decide +kernel

/-- A parked DETACH of the present epoch, and one of an epoch gone by. -/
theorem witness_ParkedRequestAnswered :
    detaching.engine.parked = [] ++ ⟨.detach, 0x40#8, 0x1111#16, 5⟩ :: [] ∧
      (∀ q ∈ ([] ++ [] : List Parked), q.subject ≠ .detach) ∧
      detaching.engine.session = .opened ∧ detaching.engine.epoch = 5 ∧ config.engine.session = .closed := by decide +kernel

/-- A reply for a request with sequence number `k`, as the cache keeps it. -/
def cached (k : Nat) : CacheEntry := ⟨BitVec.ofNat 8 k, 0, ⟨BitVec.ofNat 8 k, 0x31#8, .ok, 0, [1#8]⟩⟩

/-- An entry with the same s, a cache of seven and a full cache of eight. -/
theorem witness_ReplyCacheInsertion :
    let cache (n : Nat) := (List.range n).map cached
    (cache 8).length ≤ 8 ∧ ((cache 8).map CacheEntry.seq).Nodup ∧
      cache 8 = [cached 0] ++ cached 1 :: (cache 8).drop 2 ∧ (cached 1).seq = (cached 1).seq ∧
      (∀ c ∈ cache 7, c.seq ≠ (cached 99).seq) ∧ (cache 7).length < 8 ∧
      (∀ c ∈ cache 8, c.seq ≠ (cached 99).seq) ∧ cache 8 = cached 0 :: (cache 8).drop 1 := by decide +kernel

/-- STOPPING with this stop record. -/
def stopping (taps : List TapNo) (trunk : Bool) : State := { working with part := .stopping, stop := some ⟨taps, trunk⟩ }

/-- No stop record; a tap that leaves another, or the port, to report; the last tap and the port alone; a RESET that waits when STOP
has completed, and none. -/
theorem witness_ReportsCompleteStop :
    let waiting : State := { stopping [1] false with engine := (asks run [0x05#8]).engine }
    (waiting.completeStop.Ready (heard [0x05#8]) [] ∧ (heard [0x05#8]).body = [0x05#8]) ∧
      (stopping [1] false).completeStop.engine.inbox = [] ∧ working.stop = none ∧ (stopping [1, 5] false).stop = some ⟨[1, 5], false⟩ ∧ (∃ k ∈ ([1, 5] : List TapNo), k ≠ 5) ∧
      (stopping [1] true).stop = some ⟨[1], true⟩ ∧ (stopping [1] false).stop = some ⟨[1], false⟩ ∧
      (∀ k ∈ ([1] : List TapNo), k = 1) ∧ (stopping [] true).stop = some ⟨[], true⟩ := by decide +kernel

theorem witness_StopCompletionSteps :
    (stopping [1] false).StoreConsistent ∧ ∀ e : EntryNo, ((stopping [1] false).entry e).Lawful := by decide +kernel

/-- Use one below the quota and at it; a free count one above the reserve need and at it. -/
theorem witness_TapStartOfFrameDecision :
    (∀ t : TapNo, t < 2 → (pool.tap t).state = .listen ∧ (pool.tap t).synchronised = true ∧ (pool.tap t).inProgress = none) ∧
      pool.store.quota.get 0 ≤ pool.store.use.get 0 ∧ pool.store.use.get 1 < pool.store.quota.get 1 ∧
      (8 - (List.finRange 8).countP fun e => (pool.entry e).state = .pending ∨ (pool.entry e).state = .inFlight) = 6 ∧
      6 < pool.store.freeList.length ∧ pool.store.freeList = 89 :: pool.store.freeList.tail ∧
      (after pool (.tapStartOfFrame 1)).store.freeList.length ≤ 6 := by decide +kernel

/-- T2 following a frame in LISTEN, and in CLOSING with and without a parked CLOSE_TAP; the three verdicts. -/
theorem witness_TapEndOfFrameEffects :
    (receiving.tap 2).inProgress = some (.stored 17 5000000#32) ∧ (receiving.tap 2).state = .listen ∧
      receive (frameA.lineLevels false) = some (.valid frameA) ∧ receive badCheckLevels = some .invalidCheck ∧
      receive (List.replicate 6 false) = some (.invalidFormat .level) ∧
      ((withTap run 5 (following .closing 0 true)).tap 5).parkedClose = true ∧
      ((withTap run 5 (following .closing 0 false)).tap 5).parkedClose = false := by decide +kernel

theorem witness_IdleGapsCompleted :
    ((withTap run 5 ⟨.sync, false, 3, none, false⟩).tap 5).state = .sync ∧
      (((withTap run 5 ⟨.listen, false, 3, none, false⟩).tap 5).state = .listen ∧
        ((withTap run 5 ⟨.listen, false, 3, none, false⟩).tap 5).synchronised = false) ∧
      (withTrunk run (port .joining)).trunk.state = .joining ∧ (withTrunk run (port .joining)).trunk.inProgress = none ∧
      (withTrunk run (port .suspended)).trunk.inFlight = none := by decide +kernel

/-- A port that has seen a new idle gap, and one that has not since its own frame; the pool of section 2.14 before and after a
start at T1; a quota at its use. -/
theorem witness_TrunkStartOfFrameDecision :
    pool.trunk.idleCount = 12 ∧ sentHead.trunk.idleCount ≠ 12 ∧
      pool.trunk.state = .active ∧ pool.trunk.synchronised = true ∧ pool.trunk.detachPending = false ∧
      pool.trunk.inFlight = none ∧ pool.trunk.inProgress = none ∧ pool.store.use.get 6 < pool.store.quota.get 6 ∧
      pool.store.freeList.length = 7 ∧ (after pool (.tapStartOfFrame 1)).store.freeList.length = 6 ∧
      ({ pool with store := { pool.store with quota := pool.store.quota.set 6 9 } } : State).store.quota.get 6 = 9 ∧
      pool.store.use.get 6 = 9 := by decide +kernel

theorem witness_TrunkEndOfFrameEffects :
    detaching.trunk.inProgress = some (.stored 30 99) ∧ receive (frameC.lineLevels false) = some (.valid frameC) ∧
      detaching.trunk.inFlight = none ∧ detaching.trunk.detachPending = true ∧
      ({ detaching.trunk with detachPending := false } : Trunk).detachPending = false := by decide +kernel

/-- A port that may transmit and finds no candidate; an entry and a head of one tag. -/
def idling : State := withTrunk run { port .degraded with synchronised := true, idleCount := 12 }

def equalTags : State := { contending 1 with relay := { (contending 1).relay with queue := [6] } }

/-- Before a new idle gap; no candidate; a forced head at Y pass-overs; a head of a lower tag; an entry of an equal tag and of the lower index. -/
theorem witness_TrunkArbiterChoice :
    sentHead.trunk.idleCount ≠ 12 ∧
    (idling.trunk.state = .degraded ∧ idling.trunk.idleCount = 12 ∧ idling.trunk.inFlight = none ∧ idling.trunk.detachPending = false ∧ idling.part = .run ∧
      idling.trunk.synchronised = true ∧ idling.trunk.inProgress = none ∧ ¬ idling.HeadIsCandidate ∧
      ∀ e : EntryNo, (idling.entry e).state ≠ .pending) ∧
    ((contending 2).trunk.idleCount = 12 ∧ (contending 2).relay.queue = 5 :: [] ∧ (contending 2).HeadIsCandidate ∧ (contending 2).HeadForced) ∧
    (relaying.trunk.idleCount = 12 ∧ relaying.HeadIsCandidate ∧ ∀ e : EntryNo, (relaying.entry e).state = .pending → relaying.headTag < relaying.entryTag e) ∧
    ((equalTags.trunk.idleCount = 12 ∧ (equalTags.entry 3).state = .pending ∧ (equalTags.entry 3).slot = some 6 ∧ ¬ equalTags.HeadForced ∧
        (equalTags.HeadIsCandidate → equalTags.entryTag 3 ≤ equalTags.headTag)) ∧
      ∀ e' : EntryNo, (equalTags.entry e').state = .pending →
        equalTags.entryTag 3 ≤ equalTags.entryTag e' ∧ (equalTags.entryTag e' = equalTags.entryTag 3 → 3 ≤ e')) := by
  and_intros <;> decide +kernel

/-- f at 3 and 4 in ACTIVE, and at 1, 2, 11 and 12 in DEGRADED, after one more fault. -/
theorem witness_HealthHistoryJudgement :
    let f (n : Nat) : Nat :=
      ((List.replicate n HealthMark.fault ++ [HealthMark.fault]).drop (n - 15)).count HealthMark.fault
    (withTrunk run { port .active with history := List.replicate 16 .sent }).trunk.history.length ≤ 16 ∧
      f 2 = 3 ∧ f 3 = 4 ∧ f 0 = 1 ∧ f 1 = 2 ∧ f 10 = 11 ∧ f 11 = 12 := by decide +kernel

theorem witness_OutcomeSentApplied :
    attemptOutcome (failing false).trunk.sending (frameA.lineLevels false) = some .sent ∧
      (failing false).trunk.inProgress = none ∧ (failing false).trunk.inFlight = some .relayHead ∧
      (failing false).relay.queue = 5 :: [9] ∧ (racing true).trunk.inFlight = some (.entry 2) ∧
      attemptOutcome (racing true).trunk.sending (frameA.lineLevels false) = some .sent := by decide +kernel

theorem witness_OutcomeLostApplied :
    attemptOutcome (failing false).trunk.sending readLost = some .lost ∧ (failing false).trunk.inProgress = none ∧
      (failing false).trunk.state = .active ∧ (failing false).trunk.inFlight = some .relayHead ∧
      (failing false).relay.headRecord.flushPending = false ∧ (failing true).relay.headRecord.flushPending = true ∧
      attemptOutcome (racing false).trunk.sending readLost = some .lost ∧ (racing false).trunk.inFlight = some (.entry 2) ∧
      ((racing false).entry 2).cancelRequested = false ∧ ((racing true).entry 2).cancelRequested = true := by decide +kernel

/-- The head with attempts 3 and L 3, so above L, and with attempts 2; the entry with attempts 1 and L 3 or 1. -/
theorem witness_OutcomeFaultApplied :
    let read := frameA.lineLevels true
    attemptOutcome (failing false).trunk.sending read = some .fault ∧ (failing false).trunk.inProgress = none ∧
      (failing false).trunk.inFlight = some .relayHead ∧ (failing false).relay.head = some ⟨3, 0, false⟩ ∧
      (failing true).relay.head = some ⟨3, 0, true⟩ ∧ (failing false).relay.retryLimit < 3 + 1 ∧
      2 + 1 ≤ (failing false).relay.retryLimit ∧ attemptOutcome (racing false).trunk.sending read = some .fault ∧
      (racing false).trunk.inFlight = some (.entry 2) ∧ ((racing true).entry 2).cancelRequested = true ∧
      ((racing false).entry 2).cancelRequested = false ∧ ((racing false).entry 2).attempts + 1 ≤ (racing false).relay.retryLimit ∧
      ({ racing false with relay := { (racing false).relay with retryLimit := 1 } } : State).relay.retryLimit <
        ((racing false).entry 2).attempts + 1 := by decide +kernel

theorem witness_DetachCompletionSteps :
    detaching.trunk.parkedDetach = true ∧ (racing false).trunk.parkedDetach = false := by decide +kernel

/-- The coded region of some bits with its level-change bits, as R1 inserts them. -/
def stuffed (bits : List Bool) : List SentBit := insertLevelChanges true 0 ((false :: bits).map fun b => ⟨b, .coded⟩)

/-- A DATA frame of 32 bytes, of none, and a QUERY for 32 bytes; a level-change bit after five dominant bits; frame a with a wrong
check that a level-change bit follows and with one that none follows, the level-change bit inside it; kind codes 11 and 00; lengths 33
and 63. -/
theorem witness_FrameReceivedAsSent :
    let wrong (w : Nat) : List Bool := frameA.checkedBits ++ natToBits 16 w
    ((⟨0xFFFFFF#24, .data, 32, List.replicate 32 0#8⟩ : Frame).valid = true ∧ (⟨0#24, .data, 0, []⟩ : Frame).valid = true ∧
      (⟨0x000345#24, .query, 32, []⟩ : Frame).valid = true ∧ frameA.valid = true) ∧
    stuffed (List.replicate 4 false) = (stuffed (List.replicate 4 false)).take 5 ++ ⟨true, .levelChange⟩ :: [] ∧
    ((0x001F#16 ≠ frameCheck frameA.checkedBits ∧
        stuffed (wrong 0x001F) = (stuffed (wrong 0x001F)).dropLast ++ [⟨false, .levelChange⟩] ∧
        ∀ x ∈ (stuffed (wrong 0x001F)).dropLast.getLast?, x.role = .coded) ∧
      (1#16 ≠ frameCheck frameA.checkedBits ∧ ∀ x ∈ (stuffed (wrong 1)).getLast?, x.role = .coded)) ∧
    (stuffed (wrong 1) = (stuffed (wrong 1)).take 5 ++ ⟨true, .levelChange⟩ :: (stuffed (wrong 1)).drop 6 ∧
      (stuffed (wrong 1)).drop 6 ≠ []) ∧
    ((∀ x ∈ (stuffed (natToBits 24 5 ++ [true, true])).getLast?, x.role = .coded) ∧
      ∀ x ∈ (stuffed (natToBits 24 5 ++ [false, false])).getLast?, x.role = .coded) ∧
    (32 < 33 ∧ 63 < 64 ∧ (∀ x ∈ (stuffed (natToBits 24 5 ++ [false, true] ++ natToBits 6 33)).getLast?, x.role = .coded) ∧
      ∀ x ∈ (stuffed (natToBits 24 5 ++ [true, false] ++ natToBits 6 63)).getLast?, x.role = .coded) := by decide +kernel

/-- The five faults of R4, each at its bit: a sixth equal bit, kind code 11, length 33, frame a's check with its last bit changed, a
dominant last bit of the end delimiter. -/
theorem test_faults_at_their_bits :
    receive (List.replicate 6 false) = some (.invalidFormat .level) ∧
      receive ((stuffed (natToBits 24 5 ++ [true, true])).map SentBit.level) = some (.invalidFormat .kindCode) ∧
      receive ((stuffed (natToBits 24 5 ++ [false, true] ++ natToBits 6 33)).map SentBit.level) =
        some (.invalidFormat .length) ∧
      receive ((stuffed (frameA.checkedBits ++ frameA.checkBits.dropLast ++ [!(frameA.checkBits.getLastD false)])).map
        SentBit.level) = some .invalidCheck ∧
      receive ((frameA.lineLevels false).dropLast ++ [false]) = some (.invalidFormat .delimiter) := by decide +kernel

/-- The first tag bit that is recessive, and the last bit of the end delimiter. -/
theorem witness_AttemptOutcomeFromReadBack :
    (∃ n : Fin 40, frameA.sentBits = frameA.sentBits.take n ++ ⟨true, .arbitration⟩ :: frameA.sentBits.drop (n + 1)) ∧
      frameA.sentBits = frameA.sentBits.dropLast ++ ⟨true, .delimiter⟩ :: [] := by decide +kernel

/-- The hunter in every state; LEN at 1, 2, 250 and 251; two bytes to collect and the last one. -/
theorem witness_HunterTakesBytes :
    run.part ≠ .booting ∧ run.line.hunter.phase = .hunt ∧
      (withHunter run ⟨.length, [0xA5#8], 0, none⟩).line.hunter.phase = .length ∧
      (2 ≤ (2#8).toNat ∧ (250#8).toNat ≤ 250 ∧ (1#8).toNat < 2 ∧ 250 < (251#8).toNat) ∧
      2 ≤ (withHunter run ⟨.collect, [0xA5#8, 2#8], 2, none⟩).line.hunter.toCollect ∧
      (withHunter run ⟨.collect, [0xA5#8, 2#8, 1#8], 1, none⟩).line.hunter.toCollect = 1 ∧
      (withHunter run ⟨.check, [0xA5#8, 2#8, 1#8, 7#8], 0, none⟩).line.hunter.checkHigh = none := by decide +kernel

/-- The hunter of section 12.7 before the second CHECK byte, whose check is right with one byte and wrong with another; the same
bytes as a REPLY, which is no request. -/
theorem witness_MessageJudgedAtLastByte :
    let check := messageCheck (wire.drop 1)
    let high := check.extractLsb' 8 8
    let other := messageCheck (0x13#8 :: 0x81#8 :: 0x31#8 :: wire.drop 4)
    let s := withHunter run ⟨.check, 0xA5#8 :: 0x13#8 :: 0x01#8 :: 0x31#8 :: (wire.drop 4 ++ [high]), 0, some high⟩
    s.part ≠ .booting ∧ (wire.drop 4).length ≤ 248 ∧
      s.line.hunter = ⟨.check, wire ++ [high], 0, some high⟩ ∧
      messageCheck (0x13#8 :: 0x01#8 :: 0x31#8 :: wire.drop 4) = word16Of high (check.extractLsb' 0 8) ∧
      messageCheck (0x13#8 :: 0x01#8 :: 0x31#8 :: wire.drop 4) ≠ word16Of high (check.extractLsb' 0 8 + 1) ∧
      other = word16Of (other.extractLsb' 8 8) (other.extractLsb' 0 8) ∧ (0x81#8 : Byte) ≠ 0x01#8 := by decide +kernel

/-- An empty body and one of 248 bytes. -/
theorem witness_WholeRequestArrives :
    run.part ≠ .booting ∧ ([] : List Byte).length ≤ 248 ∧ (List.replicate 248 0xA5#8).length ≤ 248 ∧
      run.line.hunter = ⟨.hunt, [], 0, none⟩ := by decide +kernel

theorem witness_LineBreakEndsSession :
    State.reset.part = .booting ∧ (config.part ≠ .booting ∧ config.engine.session = .closed) ∧
      (working.part ≠ .booting ∧ working.engine.session = .opened) := by decide +kernel

/-- A repeat of a waiting request and of a cached one; a new request with the session CLOSED, with four requests waiting and
with three. -/
theorem witness_ArrivalStepsInOrder :
    let r := heard [0x03#8]
    let full := { run with engine := { run.engine with inbox := List.replicate 4 ⟨0x77#8, 0, [0x03#8]⟩ } }
    let kept := { run with engine := { run.engine with cache := [cached 1, cached 2] } }
    (∃ q ∈ (asks run [0x03#8]).engine.inbox, q.seq = r.seq ∧ q.check = r.check) ∧
      kept.engine.cache = [cached 1] ++ cached 2 :: [] ∧ (∀ x ∈ [cached 1], ¬ (x.seq = 2#8 ∧ x.check = 0)) ∧
      (config.engine.session = .closed ∧ r.body.head? ≠ some 0x01#8 ∧ config.engine.inbox = [] ∧ config.engine.parked = [] ∧
        config.engine.cache = []) ∧
      (4 ≤ full.engine.inbox.length ∧ ∀ q ∈ full.engine.inbox, ¬ (q.seq = r.seq ∧ q.check = r.check)) ∧
      ({ full with engine := { full.engine with inbox := full.engine.inbox.tail } } : State).engine.inbox.length < 4 := by
  decide +kernel

/-- Each of the classes in turn, and W at the outstanding count; a record that has its sequence number and its place, of a valid
frame, of either kind. -/
theorem witness_OutboundChoiceOrder :
    let replying := { reporting with line := { reporting.line with replies := [⟨0x31#8, 0x03#8, .ok, 0, [2#8]⟩] } }
    let telling := { run with events := run.events.push (.partState .run) 7 }
    let waiting := capturing [.sent, .waiting]
    ((recordOf 0x300040#24).seq = some 70 ∧ (recordOf 0x300040#24).classified = some ⟨0, 0⟩ ∧
      (recordOf 0x300040#24).frameOut.valid = true ∧
      ({ recordOf 0x345#24 with kind := .query, length := 2, payload := [] } : SlotRecord).frameOut.valid = true) ∧
      (replying.part ≠ .booting ∧ replying.line.htx = none ∧ replying.line.replies = ⟨0x31#8, 0x03#8, .ok, 0, [2#8]⟩ :: []) ∧
      (config.line.replies = [] ∧ config.engine.session = .closed) ∧
      (reporting.line.replies = [] ∧ reporting.engine.session = .opened ∧ reporting.txDone = ⟨1, .sent, 1, 0x000500#24, 77⟩ :: []) ∧
      (telling.txDone = [] ∧ telling.events.queue = ⟨0, .partState .run, 7⟩ :: []) ∧
      (waiting.events.queue = [] ∧ (waiting.delivery.queue.filter fun e => e.state ≠ .waiting).length < waiting.delivery.window ∧
        waiting.delivery.queue = [⟨0, 40, .sent, .none⟩] ++ ⟨1, 41, .waiting, .none⟩ :: []) ∧
      (capturing [.sent, .sent, .sent, .sent, .waiting]).delivery.window ≤
        ((capturing [.sent, .sent, .sent, .sent, .waiting]).delivery.queue.filter fun e => e.state ≠ .waiting).length := by
  decide +kernel

/-- Each of the classes on HTX, and each of the marks. -/
theorem witness_CompletionsHandedOn :
    let reply : Reply := ⟨0x31#8, 0x05#8, .state, 1, []⟩
    let replying := onHtx { run with line := { run.line with replies := [reply] } } .reply
    let notifying := onHtx (capturing [.sent, .sending, .waiting]) .capture
    (replying.line.htx = some ⟨.reply, []⟩ ∧ replying.line.replies = reply :: [] ∧ ¬ (reply.code = 0x05#8 ∧ reply.status = .ok)) ∧
      (notifying.line.htx = some ⟨.capture, []⟩ ∧
        notifying.delivery.queue = [⟨0, 40, .sent, .none⟩] ++ ⟨1, 41, .sending, .none⟩ :: [⟨2, 42, .waiting, .none⟩]) ∧
      (∀ m ∈ [CompletionMark.none, .toReturn, .toRemove], (⟨1, 41, .sending, m⟩ : DeliveryEntry).state = .sending) ∧
      ((onHtx reporting .txDone).line.htx = some ⟨.txDone, []⟩ ∧ (onHtx reporting .txDone).txDone = ⟨1, .sent, 1, 0x000500#24, 77⟩ :: []) ∧
      (onHtx { run with events := run.events.push (.partState .run) 7 } .event).events.queue = ⟨0, .partState .run, 7⟩ :: [] := by
  decide +kernel

/-- A request that stands alone in the inbox is ready for execution in CONFIG, RUN and STOPPING. -/
theorem ready_of (s : State) (body : List Byte) (part : s.part ≠ .booting) (reset : s.engine.resetPending = false)
    (room : s.line.replies.length + s.engine.parked.length < 16) : (asks s body).Ready (heard body) [] :=
  ⟨part, reset, room, rfl⟩

/-- The largest sum of replies and parked requests under which a request is executed is 15 (R143). -/
theorem witness_Ready :
    let s := { run with line := { run.line with replies := List.replicate 15 ⟨0x31#8, 0x03#8, .ok, 0, [2#8]⟩ } }
    (asks s [0x03#8]).Ready (heard [0x03#8]) [] := by decide +kernel

/-- An empty body, an unknown code, a field too many, a SEND short of its fields and one short of its payload; a RESET with no reply
overtaken, with one that waits, and with one on HTX. -/
theorem witness_BadRequestStartAndReset :
    (asks run []).Ready (heard []) [] ∧ (heard []).body = [] ∧ (asks run [0x06#8]).Ready (heard [0x06#8]) [] ∧
      (asks config [0x03#8]).Ready (heard [0x03#8]) [] ∧ config.part = .config ∧ run.part ≠ .config ∧
      ((asks run [0x05#8]).Ready (heard [0x05#8]) [] ∧ run.engine.overtaken = none) ∧
      (overtaking.Ready ⟨0x32#8, 0x1235#16, [0x05#8]⟩ [] ∧ overtaking.engine.overtaken = overtaking.line.replies.head? ∧
        (overtaking.engine.overtaken.map Reply.code) = some 0x04#8 ∧ overtaking.line.htx = none ∧
        ((after overtaking .outboundChoice).line.htx.map (·.kind)) = some .reply ∧
        (after overtaking .outboundChoice).engine.overtaken = overtaking.line.replies.head? ∧
        overtaking.line.replies ≠ []) ∧
      requestOf [0x06#8] = none ∧ requestOf [0x02#8, 0#8, 0#8] = none ∧ requestOf [0x34#8, 0#8, 0#8] = none ∧
      requestOf [0x34#8, 0#8, 0#8, 0#8, 0#8, 1#8, 2#8, 9#8] = none := by decide +kernel

/-- The epoch that wraps, and the session CLOSED and OPEN. -/
theorem witness_HelloOpensSession :
    let last := { run with engine := { run.engine with epoch := 255 } }
    (asks last [0x01#8]).Ready (heard [0x01#8]) [] ∧ last.engine.epoch = 255 ∧ last.engine.session = .opened ∧
      (asks config [0x01#8]).Ready (heard [0x01#8]) [] ∧ config.engine.session = .closed := by decide +kernel

/-- Subject FFh, the last ingress, and the first and the last subject that is none. -/
theorem witness_StatusReportsState :
    (∀ b ∈ [0xFF#8, 6#8, 7#8, 0xFE#8], (asks working [0x02#8, b]).Ready (heard [0x02#8, b]) []) ∧
      (6#8 : Byte) = BitVec.ofNat 8 (6 : IngressNo).val ∧ 7 ≤ (7#8).toNat ∧ (0xFE#8 : Byte) ≠ 0xFF#8 := by decide +kernel

/-- STOP in CONFIG, in STOPPING, in a lawful RUN state with a frame in progress, and in one with nothing on a line. -/
theorem witness_StopClosesEverything :
    (asks config [0x04#8]).Ready (heard [0x04#8]) [] ∧ (asks (stopping [1] false) [0x04#8]).Ready (heard [0x04#8]) [] ∧
      (asks working [0x04#8]).Lawful ∧ (asks working [0x04#8]).part = .run ∧
      ((List.finRange 6).filter fun t => (working.tap t).inProgress.isSome) ≠ [] ∧
      (asks run [0x04#8]).Lawful ∧ ((List.finRange 6).filter fun t => (run.tap t).inProgress.isSome) = [] ∧
      (run.trunk.inFlight.isSome || run.trunk.inProgress.isSome) = false :=
  ⟨by decide +kernel, by decide +kernel, by constructor <;> decide +kernel, rfl, by decide +kernel, by constructor <;> decide +kernel,
    by decide +kernel, by decide +kernel⟩

/-- Tap 5 and 6, rate 3 and 4, stamp point 1 and 2; ingress 6 and 7, quota 0, 1, 88 and 89. -/
theorem witness_SettingsReplaced :
    (∀ b ∈ [[5#8, 3#8, 1#8], [6#8, 3#8, 1#8], [5#8, 4#8, 1#8], [5#8, 3#8, 2#8]],
      (asks run (0x10#8 :: b)).Ready (heard (0x10#8 :: b)) []) ∧
    (∀ b ∈ [[3#8, 1#8], [4#8, 1#8], [3#8, 2#8]], (asks run (0x40#8 :: b)).Ready (heard (0x40#8 :: b)) []) ∧
    (∀ b ∈ [[6#8, 1#8], [6#8, 88#8], [7#8, 1#8], [6#8, 0#8], [6#8, 89#8]],
      (asks run (0x13#8 :: b)).Ready (heard (0x13#8 :: b)) []) ∧
    (5#8 : Byte) = BitVec.ofNat 8 (5 : TapNo).val ∧ (3#8 : Byte) = Rate.kbit1000.code ∧ (1#8 : Byte) = StampPoint.eof.code ∧
    (run.tap 5).state = .off ∧ (receiving.tap 2).state ≠ .off ∧ run.trunk.state = .detached ∧ pool.trunk.state ≠ .detached := by
  decide +kernel

/-- OPEN_TAP, ATTACH and RESUME in each of the states they tell apart. -/
theorem witness_OpenAttachResume :
    (∀ b ∈ [5#8, 6#8], (asks run [0x11#8, b]).Ready (heard [0x11#8, b]) []) ∧ (run.tap 5).state = .off ∧ config.part ≠ .run ∧
      ((withTap run 5 (following .closing 0 true)).tap 5).parkedClose = true ∧ (receiving.tap 2).parkedClose = false ∧
      (receiving.tap 2).state ≠ .off ∧ (asks run [0x41#8]).Ready (heard [0x41#8]) [] ∧ run.trunk.state = .detached ∧
      pool.trunk.state ≠ .detached ∧ (asks detaching [0x43#8]).Ready (heard [0x43#8]) [] ∧ detaching.trunk.detachPending = true ∧
      pool.trunk.detachPending = false ∧ pool.trunk.state ≠ .suspended ∧ (port .suspended).state = .suspended := by
  decide +kernel

/-- CLOSE_TAP on a tap in each state. -/
theorem witness_CloseTapByState :
    (∀ b ∈ [5#8, 6#8], (asks run [0x12#8, b]).Ready (heard [0x12#8, b]) []) ∧ (run.tap 5).state = .off ∧
      ((withTap run 5 ⟨.sync, false, 3, none, false⟩).tap 5).state = .sync ∧
      (((receiving.tap 2).state = .listen) ∧ (receiving.tap 2).inProgress.isSome = true) ∧
      ((pool.tap 0).state = .listen ∧ (pool.tap 0).inProgress = none) ∧
      ((withTap run 5 (following .closing 0 true)).tap 5).parkedClose = true ∧
      ((withTap run 5 (following .closing 0 false)).tap 5).state = .closing := by decide +kernel

/-- DETACH on a DETACHED port, over an attempt, over a frame, on an idle port, and with a detach pending. -/
theorem witness_DetachByState :
    (asks run [0x42#8]).Ready (heard [0x42#8]) [] ∧ run.trunk.state = .detached ∧
      ((racing false).trunk.state ≠ .detached ∧ (racing false).trunk.detachPending = false ∧
        (racing false).trunk.inFlight.isSome = true) ∧
      (pool.trunk.state ≠ .detached ∧ pool.trunk.inFlight = none ∧ pool.trunk.inProgress = none) ∧
      (detaching.trunk.detachPending = true ∧ detaching.trunk.parkedDetach = true ∧ detaching.trunk.state ≠ .detached) ∧
      ({ detaching.trunk with parkedDetach := false } : Trunk).parkedDetach = false := by decide +kernel

/-- A lawful window record of ingress 6, whose targets may be DROP or HOST, and a lawful body; an ingress of 7; targets RELAY at
ingress 6. -/
theorem witness_StagedTableWritten :
    let w : Window := ⟨true, 0x000100#24, 0xFFFF00#24, .any, 32, .host, some 0x200100#24⟩
    let body (i : Byte) (w : Window) : List Byte := 0x20#8 :: i :: 7#8 :: w.bytes
    (asks run (body 6 w)).Ready (heard (body 6 w)) [] ∧ w.Lawful 6 ∧
      body 6 w = 0x20#8 :: BitVec.ofNat 8 (6 : IngressNo).val :: BitVec.ofNat 8 (7 : WindowNo).val :: w.bytes ∧
      body 7 w = [0x20#8, 7#8, 7#8, 1#8, 0#8, 1#8, 0#8, 0xFF#8, 0xFF#8, 0#8, 3#8, 32#8, 2#8, 1#8, 0x20#8, 1#8, 0#8] ∧
      (∀ b ∈ [[6#8, 2#8], [6#8, 1#8], [7#8, 0#8], [5#8, 4#8]], (asks run (0x21#8 :: b)).Ready (heard (0x21#8 :: b)) []) ∧
      Target.host ≠ .relay ∧ Target.host ≠ .both := by decide +kernel

/-- Ingress 6, 7 and FFh, copy 1 and 2, index 7, 8 and 9. -/
theorem witness_TablesReadCommittedDiscarded :
    (∀ b ∈ [[6#8, 1#8, 7#8], [6#8, 1#8, 8#8], [7#8, 0#8, 0#8], [6#8, 2#8, 0#8], [6#8, 0#8, 9#8]],
      (asks edited (0x22#8 :: b)).Ready (heard (0x22#8 :: b)) []) ∧
    (∀ b ∈ [6#8, 7#8, 0xFE#8, 0xFF#8], (asks edited [0x23#8, b]).Ready (heard [0x23#8, b]) [] ∧
      (asks edited [0x24#8, b]).Ready (heard [0x24#8, b]) []) ∧
    (6#8 : Byte) = BitVec.ofNat 8 (6 : IngressNo).val ∧ (7#8 : Byte) = BitVec.ofNat 8 (7 : WindowNo).val := by decide +kernel

/-- L at 15 and 16, relay-in-degraded at 1 and 2; a flush with and without a head in flight. -/
theorem witness_RelaySettingsGateFlush :
    (∀ b ∈ [[255#8, 15#8, 1#8], [0#8, 16#8, 0#8], [0#8, 15#8, 2#8]], (asks run (0x30#8 :: b)).Ready (heard (0x30#8 :: b)) []) ∧
      (∀ b ∈ [0x31#8, 0x32#8, 0x33#8], (asks relaying [b]).Ready (heard [b]) []) ∧
      relaying.trunk.inFlight ≠ some .relayHead ∧ (failing false).trunk.inFlight = some .relayHead ∧
      (failing false).relay.queue = 5 :: [9] ∧ (failing false).relay.head = some ⟨3, 0, false⟩ := by decide +kernel

/-- Entry 7 and 8, kind 2 and 3, length 32 and 33; a part not in RUN, an entry not FREE, and the SEND of section 2.14. -/
theorem witness_SendPlacesFrame :
    let body (e kind len : Byte) (payload : List Byte) : List Byte := 0x34#8 :: e :: 0#8 :: 5#8 :: 0#8 :: kind :: len :: payload
    ((asks pool (body 7 2 32 [])).Ready (heard (body 7 2 32 [])) [] ∧ 0 = (if (2#8 : Byte) = 0x01#8 then (32#8).toNat else 0)) ∧
      ((asks pool (body 7 1 32 (List.replicate 32 0))).Ready (heard (body 7 1 32 (List.replicate 32 0))) [] ∧
        (List.replicate 32 (0#8)).length = if (1#8 : Byte) = 0x01#8 then (32#8).toNat else 0) ∧
      8 ≤ (8#8).toNat ∧ (3#8 : Byte) ≠ 0x01#8 ∧ (3#8 : Byte) ≠ 0x02#8 ∧ 33 ≤ (33#8).toNat ∧
      (7#8 : Byte) = BitVec.ofNat 8 (7 : EntryNo).val ∧ (2#8 : Byte) = FrameKind.query.code ∧ config.part ≠ .run ∧
      pool.part = .run ∧ (pool.entry 0).state ≠ .free ∧ (pool.entry 7).state = .free ∧
      pool.store.freeList = 89 :: pool.store.freeList.tail := by decide +kernel

/-- Entry 7 and 8; an entry in each state. -/
theorem witness_CancelByEntryState :
    (∀ b ∈ [7#8, 8#8], (asks pool [0x35#8, b]).Ready (heard [0x35#8, b]) []) ∧ (7#8 : Byte) = BitVec.ofNat 8 (7 : EntryNo).val ∧
      (pool.entry 0).state = .pending ∧ ((racing false).entry 2).state = .inFlight ∧ (pool.entry 7).state = .free ∧
      ((withEntry run 1 ⟨.done, none, 1, false, some .sent⟩).entry 1).state = .done := by decide +kernel

/-- W at 16 and 17; an ACK of the newest SENT capture and of one that is not SENT; RESEND and DISCARD_CAPTURES. -/
theorem witness_CapturesGrantedAckedReturned :
    let s := capturing [.sent, .sent, .waiting]
    (∀ b ∈ [16#8, 17#8], (asks s [0x50#8, b]).Ready (heard [0x50#8, b]) []) ∧
      (∀ b ∈ [41#8, 42#8], (asks s [0x51#8, 0#8, b]).Ready (heard [0x51#8, 0#8, b]) []) ∧
      (∀ b ∈ [0x52#8, 0x53#8], (asks s [b]).Ready (heard [b]) []) ∧
      (∀ e ∈ s.delivery.queue, ¬ (e.state = .sent ∧ e.number = word16Of 0#8 42#8)) ∧
      s.delivery.queue = [⟨0, 40, .sent, .none⟩] ++ ⟨1, 41, .sent, .none⟩ :: [⟨2, 42, .waiting, .none⟩] ∧
      (41 : Word16) = word16Of 0#8 41#8 := by decide +kernel

end Sys2Proof.Tests
end

section
/-! SUPPORT. The stamp counter and the commands of the trunk port whose effects rest on the shared operations alone. -/

namespace Sys2Proof.Machine

/-! ## One microsecond -/

theorem step_empty {s : State} (h : s.pending = []) : step s = .next s.tick := by
  simp [step, h]

/-- The stamp counter wraps from FFFFFFFFh to 0 (R13). -/
theorem stamp_succ_toNat (x : Word32) :
    (x + 1).toNat = if x.toNat = 4294967295 then 0 else x.toNat + 1 := by
  have hx := x.isLt
  rw [BitVec.toNat_add]
  split <;> simp <;> omega

/-- Settles O2: the step on an empty queue is `State.tick`, and the tick is an addition modulo 2^32. -/
theorem emptyQueueCountsMicrosecond : Obligations.EmptyQueueCountsMicrosecond := by
  intro s h
  exact ⟨s.tick, step_empty h, rfl, stamp_succ_toNat s.stamp⟩

/-! ## The end of a frame -/

theorem stampOf_eq (point : StampPoint) (sofStamp now : Word32) :
    stampOf point sofStamp now = if point = .sof then sofStamp else now := by
  cases point <;> rfl

/-- The store without the FILLING slot of a frame at ingress `i`, if the frame was stored (R23). -/
def Store.withoutFrame (st : Store) (i : IngressNo) : InProgress → Store
  | .stored n _ => { st with
      slots := st.slots.set n .free
      freeList := st.freeList ++ [n]
      use := st.use.set i (st.use.get i - 1) }
  | .unstored _ => st

/-- An invalid end of frame: the counter of its reason goes up and a stored frame's FILLING slot is freed (R23, R43, R116). -/
theorem State.endInvalidFrame_eq {s : State} {i : IngressNo} {p : InProgress} (checkFault : Bool)
    (h : s.FillingFor i p) :
    s.endInvalidFrame i p checkFault =
      { (s.modIngress i fun g => { g with counters :=
          if checkFault then { g.counters with invalidCheck := g.counters.invalidCheck + 1 }
          else { g.counters with invalidFormat := g.counters.invalidFormat + 1 } }) with
        store := s.store.withoutFrame i p } := by
  cases p with
  | stored n sofStamp =>
    simp only [State.endInvalidFrame, State.modIngress_store, Store.free_filling (h n rfl), Store.withoutFrame]
  | unstored reason => rfl

/-- Settles O20, by the verdict and, for a valid frame, by whether it was stored. -/
theorem endOfFrameHandled : Obligations.EndOfFrameHandled := by
  intro s i p h
  cases p with
  | stored n sofStamp =>
    refine ⟨fun f => ?_, State.endInvalidFrame_eq true h, fun _ => State.endInvalidFrame_eq false h⟩
    simp only [State.endFrame, State.endValidFrame, stampOf_eq]
    rfl
  | unstored reason => cases reason <;> exact ⟨fun _ => rfl, rfl, fun _ => rfl⟩

/-! ## The end of a trunk frame -/

theorem TrunkState.transmitting_eq (k : TrunkState) : k.transmitting = (k = .active || k = .degraded) := by
  cases k <;> rfl

theorem TrunkState.receiving_of_transmitting {k : TrunkState} (h : k = .active ∨ k = .degraded) :
    k.receiving = true := by
  rcases h with rfl | rfl <;> rfl

/-- The state a trunk frame's end leaves before a pending detach is looked at (R115, R116, R117). -/
def State.trunkFrameEnded (s : State) (p : InProgress) (v : Verdict) : State :=
  { s.endFrame trunkIngress p v with trunk := { s.trunk with
      inProgress := none
      idleCount := 0
      acknowledged := s.trunk.state.transmitting && v.reachedAcknowledge } }

theorem execTrunkEndOfFrame_eq {s : State} {p : InProgress} {bits : List Level} {v : Verdict}
    (hp : s.trunk.inProgress = some p) (hv : receive bits = some v) :
    exec (.trunkEndOfFrame bits) s = .next (s.trunkFrameEnded p v).detachIfIdle := by
  simp [exec, execTrunkEndOfFrame, hp, hv, State.trunkFrameEnded]

/-- Settles O31: the end of the frame is `State.trunkFrameEnded`, and a detach that waited for it is completed. -/
theorem trunkEndOfFrameEffects : Obligations.TrunkEndOfFrameEffects := by
  intro s p bits v hp hv hf handled good ended
  have hack : (s.trunk.state.transmitting && v.reachedAcknowledge) =
      ((s.trunk.state = .active || s.trunk.state = .degraded) && good) := by
    rw [TrunkState.transmitting_eq]
    rcases v with f | _ | (_ | _ | _ | _) <;> rfl
  have hended : s.trunkFrameEnded p v = ended := by
    simp only [State.trunkFrameEnded, hack]; rfl
  rw [execTrunkEndOfFrame_eq hp hv, hended]
  refine ⟨fun hd => ?_, fun hd => ?_⟩
  · rw [State.detachIfIdle_busy (s := ended) (.inl hd)]
  · rw [State.detachIfIdle_idle (s := ended) hd hf rfl]

/-! ## The frame that won the arbitration -/

theorem execOutcomeLost_eq {s : State} {read : List Level} {c : Candidate}
    (hc : s.trunk.inFlight = some c) (hr : attemptOutcome s.trunk.sending read = some .lost) :
    exec (.outcomeLost read) s = .next (s.applyLost c).endAttempt.followWinner.detachIfIdle := by
  simp [exec, execOutcomeLost, hc, State.outcomeIs, hr]

/-- What a LOST outcome leaves of the trunk port, applied to the relay block and the entries as `u` has them: the attempt is
over, and the winner is received or a pending detach completed (R8, R114, R123, R124). -/
def State.lostSettled (u : State) (k : Trunk) : State :=
  let ended : State := { u with trunk := { k with inFlight := none, sending := [], idleCount := 0 } }
  if k.detachPending = true then ended.completeDetach
  else
    { (ended.allocate trunkIngress k.attemptStamp).1 with trunk := { ended.trunk with
        inProgress := some (ended.allocate trunkIngress k.attemptStamp).2, synchronised := false, idleCount := 0 } }

theorem State.allocate_trunk (s : State) (i : IngressNo) (stamp : Word32) :
    (s.allocate i stamp).1.trunk = s.trunk := by
  rcases s.allocate_cases i stamp with ⟨_, h⟩ | ⟨_, _, _, _, h⟩ <;> rw [h]

theorem State.applyLost_trunk (s : State) (c : Candidate) : (s.applyLost c).trunk = s.trunk := by
  cases c with
  | relayHead => simp only [State.applyLost]; split <;> simp
  | entry e => simp only [State.applyLost]; split <;> simp

theorem State.lost_settles {u : State} (hk : u.trunk.state = .active ∨ u.trunk.state = .degraded)
    (hp : u.trunk.inProgress = none) :
    u.endAttempt.followWinner.detachIfIdle = u.lostSettled u.trunk := by
  have hrec : u.endAttempt.trunk.state.receiving = true := TrunkState.receiving_of_transmitting hk
  by_cases hd : u.trunk.detachPending = true
  · have hstay : u.endAttempt.followWinner = u.endAttempt := by simp [State.followWinner, hd]
    rw [hstay, State.detachIfIdle_idle (s := u.endAttempt) hd rfl hp]
    simp [State.lostSettled, hd, State.endAttempt]
  · have hd' : u.trunk.detachPending = false := by simpa using hd
    have hfollow : u.endAttempt.followWinner = u.endAttempt.trunkFrameStart u.trunk.attemptStamp := by
      rw [State.followWinner, if_pos ⟨hrec, hd'⟩]; rfl
    rw [hfollow, State.detachIfIdle_busy (.inr (.inr rfl))]
    simp only [State.trunkFrameStart, State.allocate_trunk, State.lostSettled, hd', State.endAttempt]
    rfl

/-- Settles O35: the relay block applies the outcome, then the port settles (`State.lost_settles`). -/
theorem outcomeLostApplied : Obligations.OutcomeLostApplied := by
  intro s read hr hp hk settled
  have key {c : Candidate} (hc : s.trunk.inFlight = some c) :
      exec (.outcomeLost read) s = .next (settled (s.applyLost c)) := by
    have ht := s.applyLost_trunk c
    rw [execOutcomeLost_eq hc hr, State.lost_settles (by rw [ht]; exact hk) (by rw [ht]; exact hp), ht]
    rfl
  refine ⟨fun hc hflush => ?_, fun hc hflush => ?_, fun e hc => ⟨fun hcancel => ?_, fun hcancel => ?_⟩⟩
  all_goals rw [key hc]
  · simp [State.applyLost, hflush]
  · simp [State.applyLost, hflush]
  · simp [State.applyLost, hcancel, State.modEntry]
  · simp [State.applyLost, hcancel]

end Sys2Proof.Machine
end

section
/-! SUPPORT. The outcome of an attempt from the levels read back, and the choice of the trunk arbiter. -/

namespace Sys2Proof.Machine

/-! ## The outcome of an attempt -/

/-- The level at which a sent bit stands on the line: as sent, but for the acknowledge bit, which the receivers drive (R6). -/
def SentBit.readBack (acknowledge : Level) (b : SentBit) : Level :=
  if b.role = .acknowledge then acknowledge else b.level

theorem Frame.lineLevels_eq (f : Frame) (acknowledge : Level) :
    f.lineLevels acknowledge = f.sentBits.map (SentBit.readBack acknowledge) := rfl

/-- No outcome is delivered over bits that are read back as sent while others follow; the acknowledge bit alone is remembered. -/
theorem outcomeFrom_readBack (acknowledge : Level) (before : List SentBit) {rest : List SentBit} (read : List Level)
    (hrest : rest ≠ []) (acknowledged : Bool) :
    outcomeFrom acknowledged (before ++ rest) (before.map (SentBit.readBack acknowledge) ++ read) =
      outcomeFrom (if ∃ b ∈ before, b.role = .acknowledge then !acknowledge else acknowledged) rest read := by
  induction before generalizing acknowledged with
  | nil => simp
  | cons b before ih =>
    by_cases hb : b.role = .acknowledge
    · simp [outcomeFrom, SentBit.readBack, hb, ih]
    · simp [outcomeFrom, SentBit.readBack, hb, ih, hrest]

/-- The first bit that reads otherwise than it was sent ends the attempt at that bit (R8, R9). -/
theorem outcomeFrom_differs {b : SentBit} (behind : List SentBit) (acknowledged : Bool) (hb : b.role ≠ .acknowledge) :
    outcomeFrom acknowledged (b :: behind) [!b.level] =
      some (if b.role = .arbitration ∧ b.level = true then .lost else .fault) := by
  simp [outcomeFrom, hb]

/-- Everything a frame sends before the last bit of its end delimiter. -/
def Frame.bitsBeforeLast (f : Frame) : List SentBit :=
  insertLevelChanges true 0 f.codedBits ++ ⟨true, .acknowledge⟩ :: List.replicate 7 ⟨true, .delimiter⟩

theorem Frame.sentBits_eq_bitsBeforeLast (f : Frame) : f.sentBits = f.bitsBeforeLast ++ [⟨true, .delimiter⟩] := by
  simp [Frame.sentBits, Frame.bitsBeforeLast, List.replicate]

/-- With every bit read back as sent the acknowledge decides, at the last bit of the end delimiter (R9). -/
theorem attemptOutcome_lineLevels (f : Frame) (acknowledge : Level) :
    attemptOutcome f.sentBits (f.lineLevels acknowledge) = some (if acknowledge then .fault else .sent) := by
  have hack : ∃ b ∈ f.bitsBeforeLast, b.role = .acknowledge := ⟨⟨true, .acknowledge⟩, by simp [Frame.bitsBeforeLast], rfl⟩
  rw [attemptOutcome, Frame.lineLevels_eq, Frame.sentBits_eq_bitsBeforeLast, List.map_append,
    outcomeFrom_readBack _ _ _ (by simp), if_pos hack]
  cases acknowledge <;> rfl

/-- Settles O39: the bits before the one that differs deliver no outcome, and that bit does. -/
theorem attemptOutcomeFromReadBack : Obligations.AttemptOutcomeFromReadBack := by
  intro f
  refine ⟨attemptOutcome_lineLevels f false, attemptOutcome_lineLevels f true, fun before behind b acknowledge hf hb => ?_⟩
  rw [hf, attemptOutcome]
  exact (outcomeFrom_readBack acknowledge before [!b.level] (by simp) false).trans (outcomeFrom_differs behind _ hb)

/-! ## The candidates -/

theorem State.mem_pendingEntries {s : State} {e : EntryNo} : e ∈ s.pendingEntries ↔ (s.entry e).state = .pending := by
  have hall : ∀ e : EntryNo, e ∈ allEntries := by decide
  simp [State.pendingEntries, hall e]

theorem State.pendingEntries_ascending (s : State) : s.pendingEntries.Pairwise (· < ·) :=
  List.Pairwise.filter _ (by decide)

theorem State.headAdmitted_iff (s : State) :
    s.headAdmitted = true ↔ s.trunk.state = .active ∨ s.trunk.state = .degraded ∧ s.relay.inDegraded = true := by
  simp [State.headAdmitted]

/-- A head that is a candidate stands there with the tag out of its slot (R90, R92). -/
theorem State.headCandidate_some {s : State} (h : s.HeadIsCandidate) : s.headCandidate = some s.headTag := by
  obtain ⟨hqueue, hgate, hflush, hstate⟩ := h
  obtain ⟨n, rest, hq⟩ := List.exists_cons_of_ne_nil hqueue
  simp [State.headCandidate, State.headTag, hq, hgate, hflush, s.headAdmitted_iff.mpr hstate]

theorem State.headCandidate_none {s : State} (h : ¬ s.HeadIsCandidate) : s.headCandidate = none := by
  unfold State.headCandidate
  split
  · rfl
  · next n rest hq =>
    refine if_neg fun ⟨hgate, hflush, hadmitted⟩ => h ⟨by simp [hq], hgate, hflush, s.headAdmitted_iff.mp hadmitted⟩

/-- The lowest entry is one of those searched; there is none only where none is searched. -/
theorem lowestEntry_cases (tagOf : EntryNo → Tag) (es : List EntryNo) :
    es = [] ∧ lowestEntry tagOf es = none ∨ ∃ e ∈ es, lowestEntry tagOf es = some e := by
  induction es with
  | nil => exact .inl ⟨rfl, rfl⟩
  | cons x es ih =>
    refine .inr ?_
    rcases ih with ⟨rfl, -⟩ | ⟨e, he, hlow⟩
    · exact ⟨x, by simp, rfl⟩
    · simp only [lowestEntry, hlow]
      split
      · exact ⟨e, by simp [he], rfl⟩
      · exact ⟨x, by simp, rfl⟩

/-- Of entries in ascending order the one of the lowest tag, and among equal tags of the lowest index (R92). -/
theorem lowestEntry_eq_some {tagOf : EntryNo → Tag} {es : List EntryNo} {e : EntryNo} (hs : es.Pairwise (· < ·))
    (he : e ∈ es) (hlow : ∀ x ∈ es, tagOf e ≤ tagOf x ∧ (tagOf x = tagOf e → e ≤ x)) :
    lowestEntry tagOf es = some e := by
  induction es with
  | nil => simp at he
  | cons x es ih =>
    obtain ⟨hx, hs'⟩ := List.pairwise_cons.mp hs
    rcases List.mem_cons.mp he with rfl | he'
    · rcases lowestEntry_cases tagOf es with ⟨-, h⟩ | ⟨y, hy, h⟩
      · simp [lowestEntry, h]
      · have hle : ¬ tagOf y < tagOf e := BitVec.not_lt.mpr (hlow y (by simp [hy])).1
        simp [lowestEntry, h, hle]
    · have hlt : tagOf e < tagOf x := by
        obtain ⟨hle, heq⟩ := hlow x (by simp)
        refine BitVec.lt_of_le_ne hle fun h => ?_
        exact absurd (hx e he') (not_lt.mpr (heq h.symm))
      simp [lowestEntry, ih hs' he' fun y hy => hlow y (by simp [hy]), hlt]

/-! ## The choice -/

theorem State.choose_none {s : State} (hh : ¬ s.HeadIsCandidate) (he : ∀ e : EntryNo, (s.entry e).state ≠ .pending) :
    s.choose = none := by
  have hnil : s.pendingEntries = [] :=
    List.eq_nil_iff_forall_not_mem.mpr fun e h => he e (State.mem_pendingEntries.mp h)
  simp [State.choose, State.headCandidate_none hh, hnil, lowestEntry]

theorem State.choose_relayHead {s : State} (hh : s.HeadIsCandidate)
    (hwin : s.HeadForced ∨ ∀ e : EntryNo, (s.entry e).state = .pending → s.headTag < s.entryTag e) :
    s.choose = some .relayHead := by
  rcases lowestEntry_cases s.entryTag s.pendingEntries with ⟨-, h⟩ | ⟨e, he, h⟩
  · simp only [State.choose, State.headCandidate_some hh, h]
  · simp only [State.choose, State.headCandidate_some hh, h]
    rcases hwin with ⟨-, hforced⟩ | hlow
    · rw [if_pos hforced]
    · have hle : ¬ s.entryTag e ≤ s.headTag := BitVec.not_le.mpr (hlow e (State.mem_pendingEntries.mp he))
      simp [hle]

theorem State.choose_entry {s : State} {e : EntryNo} (he : (s.entry e).state = .pending) (hforced : ¬ s.HeadForced)
    (hhead : s.HeadIsCandidate → s.entryTag e ≤ s.headTag)
    (hlow : ∀ e' : EntryNo, (s.entry e').state = .pending →
      s.entryTag e ≤ s.entryTag e' ∧ (s.entryTag e' = s.entryTag e → e ≤ e')) :
    s.choose = some (.entry e) := by
  have hlowest : lowestEntry s.entryTag s.pendingEntries = some e :=
    lowestEntry_eq_some s.pendingEntries_ascending (State.mem_pendingEntries.mpr he)
      fun x hx => hlow x (State.mem_pendingEntries.mp hx)
  by_cases hh : s.HeadIsCandidate
  · have hyield : ¬ (0 < s.relay.yieldLimit ∧ s.relay.yieldLimit ≤ s.relay.headRecord.passOvers) :=
      fun h => hforced ⟨hh, h⟩
    simp only [State.choose, State.headCandidate_some hh, hlowest, if_neg hyield, if_pos (hhead hh)]
  · simp only [State.choose, State.headCandidate_none hh, hlowest]

/-! ## The attempt -/

theorem execTransmitOpportunity_eq (s : State) :
    exec .transmitOpportunity s =
      .next (if s.mayTransmit then (s.choose.elim s s.startAttempt) else s) := by
  cases h : s.choose <;> simp [exec, execTransmitOpportunity, h]

/-- The head of a queue is put in flight; the relay block stays as it is (R7, R91). -/
theorem State.startAttempt_relayHead {s : State} {n : SlotNo} {rest : List SlotNo} (hq : s.relay.queue = n :: rest) :
    s.startAttempt .relayHead = { s with trunk := { s.trunk with
      inFlight := some .relayHead
      sending := (s.store.record n).frameOut.sentBits
      attemptStamp := s.stamp
      idleCount := 0 } } := by
  have hslot : s.candidateSlot .relayHead = some n := by simp [State.candidateSlot, hq]
  simp only [State.startAttempt, hslot]
  rfl

theorem stopSucc_byte (x : Byte) : stopSucc x = if x = 255 then 255 else x + 1 := by
  unfold stopSucc
  split <;> simp_all

/-- The pass-over counts only where the head was a candidate too (R93). -/
theorem State.passedOver_entry (s : State) (e : EntryNo) :
    s.passedOver (.entry e) =
      if s.HeadIsCandidate then s.relay.head.map fun h => { h with passOvers := stopSucc h.passOvers }
      else s.relay.head := by
  by_cases hh : s.HeadIsCandidate
  · simp only [State.passedOver, State.headCandidate_some hh, if_pos hh]
  · simp only [State.passedOver, State.headCandidate_none hh, if_neg hh]

/-- A PENDING entry is put in flight (R7, R91, R93). -/
theorem State.startAttempt_entry {s : State} {e : EntryNo} {n : SlotNo} (hn : (s.entry e).slot = some n) :
    s.startAttempt (.entry e) = { s with
      trunk := { s.trunk with
        inFlight := some (.entry e)
        sending := (s.store.record n).frameOut.sentBits
        attemptStamp := s.stamp
        idleCount := 0 }
      entries := s.entries.set e { s.entry e with state := .inFlight }
      relay := { s.relay with head := s.passedOver (.entry e) } } := by
  simp [State.startAttempt, State.candidateSlot, hn]

/-- Settles O32: at an idle point the arbiter's choice is put in flight. -/
theorem trunkArbiterChoice : Obligations.TrunkArbiterChoice := by
  refine ⟨fun s hidle => ?_, fun s hstate hflight hdetach hpart hidle hsync hprogress => ?_⟩
  · have hmay : ¬ s.mayTransmit = true := fun h => hidle ((s.mayTransmit_iff.mp h).2.2.2.2.1)
    rw [execTransmitOpportunity_eq, if_neg hmay]
  · intro sending passed
    have hmay : s.mayTransmit = true :=
      s.mayTransmit_iff.mpr ⟨hstate, hflight, hdetach, hpart, hidle, hsync, hprogress⟩
    rw [execTransmitOpportunity_eq, if_pos hmay]
    refine ⟨fun hh he => ?_, fun n rest hq hh hwin => ?_, fun e n he hn hforced hhead hlow => ?_⟩
    · rw [State.choose_none hh he]; rfl
    · rw [State.choose_relayHead hh hwin, Option.elim_some, State.startAttempt_relayHead hq]; rfl
    · rw [State.choose_entry he hforced hhead hlow, Option.elim_some, State.startAttempt_entry hn,
        State.passedOver_entry]
      simp only [stopSucc_byte]
      rfl

end Sys2Proof.Machine
end

section
/-! SUPPORT. Numbers and bytes as runs of bits, and the level-change bits of a coded region (R1). -/

namespace Sys2Proof.Machine

/-! ## Numbers as bits -/

@[simp] theorem natToBits_length (w n : Nat) : (natToBits w n).length = w := by
  induction w with
  | zero => rfl
  | succ w ih => simp [natToBits, ih]

/-- Bit k of a run is bit w - 1 - k of the number: most significant bit first (R1). -/
theorem natToBits_eq_map_range (w n : Nat) :
    natToBits w n = (List.range w).map fun k => n.testBit (w - 1 - k) := by
  induction w with
  | zero => rfl
  | succ w ih =>
    simp only [natToBits, ih, List.range_succ_eq_map, List.map_cons, List.map_map]
    congr 1
    refine List.map_congr_left fun k _ => ?_
    simp only [Function.comp_apply]
    congr 1
    omega

/-- A run of bits read on from a number. -/
theorem foldl_natToBits (w n a : Nat) :
    (natToBits w n).foldl (fun m b => 2 * m + b.toNat) a = a * 2 ^ w + n % 2 ^ w := by
  induction w generalizing a with
  | zero => simp [natToBits, Nat.mod_one]
  | succ w ih =>
    rw [natToBits, List.foldl_cons, ih, Nat.mod_pow_succ, Nat.toNat_testBit]
    ring

theorem bitsToNat_natToBits {w n : Nat} (h : n < 2 ^ w) : bitsToNat (natToBits w n) = n := by
  rw [bitsToNat, foldl_natToBits, Nat.mod_eq_of_lt h]
  simp

theorem bitsToNat_toNat {w : Nat} (x : BitVec w) : bitsToNat (natToBits w x.toNat) = x.toNat :=
  bitsToNat_natToBits x.isLt

/-! ## Bytes as bits -/

@[simp] theorem bytesToBits_length (bytes : List Byte) : (bytesToBits bytes).length = 8 * bytes.length := by
  induction bytes with
  | nil => rfl
  | cons b bytes ih =>
    rw [bytesToBits, List.flatMap_cons, List.length_append, natToBits_length, ← bytesToBits, ih, List.length_cons]
    omega

@[simp] theorem bitsToBytes_length (n : Nat) (bits : List Bool) : (bitsToBytes n bits).length = n := by
  induction n generalizing bits with
  | zero => rfl
  | succ n ih => simp [bitsToBytes, ih]

theorem bitsToBytes_bytesToBits (bytes : List Byte) (rest : List Bool) :
    bitsToBytes bytes.length (bytesToBits bytes ++ rest) = bytes := by
  induction bytes with
  | nil => rfl
  | cons b bytes ih =>
    have hsplit : bytesToBits (b :: bytes) ++ rest = natToBits 8 b.toNat ++ (bytesToBits bytes ++ rest) := by
      simp [bytesToBits]
    rw [hsplit, List.length_cons, bitsToBytes, List.take_left' (natToBits_length 8 _),
      List.drop_left' (natToBits_length 8 _), ih, bitsToNat_toNat, BitVec.ofNat_toNat, BitVec.setWidth_eq]

/-! ## Level-change bits -/

/-- A bit of the coded region that is no level-change bit. -/
def codedBit (b : Level) : SentBit := ⟨b, .coded⟩

/-- The level-change bit that stands in front of the next bit of the coded region, if a run of five has just ended (R1). -/
def leadBits (last : Level) (run : Nat) : List SentBit :=
  if run = 5 then [⟨!last, .levelChange⟩] else []

/-- The length of the run after one more bit of the coded region; an inserted bit is the first of its run (R1). -/
def nextRun (last : Level) (run : Nat) (b : Level) : Nat :=
  if run = 5 then if b = !last then 2 else 1 else if b = last then run + 1 else 1

theorem insertLevelChanges_nil (last : Level) (run : Nat) : insertLevelChanges last run [] = leadBits last run := rfl

theorem insertLevelChanges_cons (last : Level) (run : Nat) (b : SentBit) (bits : List SentBit) :
    insertLevelChanges last run (b :: bits) =
      leadBits last run ++ b :: insertLevelChanges b.level (nextRun last run b.level) bits := by
  by_cases h : run = 5 <;> simp [insertLevelChanges, leadBits, nextRun, h]

/-- The levels do not depend on the roles of the bits. -/
theorem insertLevelChanges_levels {bits bits' : List SentBit} (last : Level) (run : Nat)
    (h : bits.map SentBit.level = bits'.map SentBit.level) :
    (insertLevelChanges last run bits).map SentBit.level = (insertLevelChanges last run bits').map SentBit.level := by
  induction bits generalizing bits' last run with
  | nil =>
    obtain rfl : bits' = [] := by simpa using h.symm
    rfl
  | cons b bits ih =>
    cases bits' with
    | nil => simp at h
    | cons b' bits' =>
      obtain ⟨hb, hbits⟩ : b.level = b'.level ∧ bits.map SentBit.level = bits'.map SentBit.level := by simpa using h
      simp [insertLevelChanges_cons, hb, ih _ _ hbits]

/-- Every bit of the result is a level-change bit or one of the bits given. -/
theorem mem_insertLevelChanges {last : Level} {run : Nat} {bits : List SentBit} {x : SentBit}
    (h : x ∈ insertLevelChanges last run bits) : x.role = .levelChange ∨ x ∈ bits := by
  have hlead {l : Level} {r : Nat} (hx : x ∈ leadBits l r) : x.role = .levelChange := by
    unfold leadBits at hx
    split at hx <;> simp_all
  induction bits generalizing last run with
  | nil => exact .inl (hlead h)
  | cons b bits ih =>
    rw [insertLevelChanges_cons, List.mem_append, List.mem_cons] at h
    rcases h with h | rfl | h
    · exact .inl (hlead h)
    · exact .inr (by simp)
    · exact (ih h).imp_right (by simp +contextual)

/-- Receivers remove the level-change bits, and what is left is what was coded (R1). -/
theorem filter_insertLevelChanges (last : Level) (run : Nat) (bits : List Level) :
    ((insertLevelChanges last run (bits.map codedBit)).filter fun b => b.role ≠ .levelChange) = bits.map codedBit := by
  have hlead (l : Level) (r : Nat) : ((leadBits l r).filter fun b => b.role ≠ .levelChange) = [] := by
    unfold leadBits; split <;> rfl
  induction bits generalizing last run with
  | nil => exact hlead last run
  | cons b bits ih =>
    rw [List.map_cons, insertLevelChanges_cons, List.filter_append, hlead, List.nil_append,
      List.filter_cons_of_pos (by simp [codedBit]), ih]

/-- The coded region as far as its last bit, without the level-change bit that may still follow it. -/
def codedBody (last : Level) (run : Nat) : List Level → List SentBit
  | [] => []
  | b :: bits => leadBits last run ++ codedBit b :: codedBody b (nextRun last run b) bits

/-- The level and the length of the run that the coded region ends with. -/
def runAfter (last : Level) (run : Nat) : List Level → Level × Nat
  | [] => (last, run)
  | b :: bits => runAfter b (nextRun last run b) bits

theorem insertLevelChanges_eq_codedBody (last : Level) (run : Nat) (bits : List Level) :
    insertLevelChanges last run (bits.map codedBit) =
      codedBody last run bits ++ leadBits (runAfter last run bits).1 (runAfter last run bits).2 := by
  induction bits generalizing last run with
  | nil => rfl
  | cons b bits ih => rw [List.map_cons, insertLevelChanges_cons, codedBit, ih]; simp [codedBody, runAfter, codedBit]

theorem codedBody_append (last : Level) (run : Nat) (xs ys : List Level) :
    codedBody last run (xs ++ ys) =
      codedBody last run xs ++ codedBody (runAfter last run xs).1 (runAfter last run xs).2 ys := by
  induction xs generalizing last run with
  | nil => rfl
  | cons x xs ih => simp [codedBody, runAfter, ih]

theorem runAfter_append (last : Level) (run : Nat) (xs ys : List Level) :
    runAfter last run (xs ++ ys) = runAfter (runAfter last run xs).1 (runAfter last run xs).2 ys := by
  induction xs generalizing last run with
  | nil => rfl
  | cons x xs ih => simp [runAfter, ih]

/-- The coded body ends with a bit of the coded region. -/
theorem codedBody_concat (last : Level) (run : Nat) (bits : List Level) (b : Level) :
    ∃ front, codedBody last run (bits ++ [b]) = front ++ [codedBit b] := by
  rw [codedBody_append]
  exact ⟨codedBody last run bits ++ leadBits (runAfter last run bits).1 (runAfter last run bits).2, by simp [codedBody]⟩

/-- A bit behind a possible level-change bit is that level-change bit or stands further behind. -/
theorem leadBits_append_split {last : Level} {run : Nat} {tail before behind : List SentBit} {b : SentBit}
    (h : leadBits last run ++ tail = before ++ b :: behind) :
    run = 5 ∧ before = [] ∧ b = ⟨!last, .levelChange⟩ ∧ behind = tail ∨
      ∃ further, before = leadBits last run ++ further ∧ tail = further ++ b :: behind := by
  by_cases hrun : run = 5
  · simp only [leadBits, if_pos hrun, List.cons_append, List.nil_append] at h ⊢
    rcases before with _ | ⟨c, before⟩
    · obtain ⟨hb, ht⟩ := List.cons.inj h
      exact .inl ⟨hrun, rfl, hb.symm, ht.symm⟩
    · obtain ⟨hc, ht⟩ := List.cons.inj h
      exact .inr ⟨before, by rw [hc], ht⟩
  · exact .inr ⟨before, by simp [leadBits, hrun], by simpa [leadBits, hrun] using h⟩

/-- Every bit of the line up to the acknowledge bit, by what stands before it: a level-change bit exactly where a run of five has
just ended, otherwise a bit of the coded region or the acknowledge bit, behind the level-change bit if one was due. -/
theorem line_split {last : Level} {run : Nat} {bits : List Level} {before behind : List SentBit} {b : SentBit}
    (h : insertLevelChanges last run (bits.map codedBit) ++ [⟨true, .acknowledge⟩] = before ++ b :: behind) :
    ∃ xs ys, bits = xs ++ ys ∧
      (b = ⟨!(runAfter last run xs).1, .levelChange⟩ ∧ (runAfter last run xs).2 = 5 ∧ before = codedBody last run xs ∧
          (ys = [] → behind = [⟨true, .acknowledge⟩]) ∨
        b.role ≠ .levelChange ∧
          before = codedBody last run xs ++ leadBits (runAfter last run xs).1 (runAfter last run xs).2) := by
  induction bits generalizing last run before with
  | nil =>
    refine ⟨[], [], rfl, ?_⟩
    rcases leadBits_append_split h with ⟨hrun, hbefore, hb, hbehind⟩ | ⟨further, hbefore, htail⟩
    · exact .inl ⟨hb, hrun, hbefore, fun _ => hbehind⟩
    · rcases further with _ | ⟨c, further⟩
      · obtain ⟨rfl, -⟩ := List.cons.inj htail
        exact .inr ⟨by simp, by simpa [codedBody, runAfter] using hbefore⟩
      · simp at htail
  | cons x bits ih =>
    rw [List.map_cons, insertLevelChanges_cons, List.append_assoc, List.cons_append] at h
    rcases leadBits_append_split h with ⟨hrun, hbefore, hb, -⟩ | ⟨further, rfl, htail⟩
    · exact ⟨[], x :: bits, rfl, .inl ⟨hb, hrun, hbefore, by simp⟩⟩
    · rcases further with _ | ⟨c, further⟩
      · obtain ⟨rfl, -⟩ := List.cons.inj htail
        exact ⟨[], x :: bits, rfl, .inr ⟨by simp [codedBit], by simp [codedBody, runAfter]⟩⟩
      · obtain ⟨rfl, hrest⟩ := List.cons.inj htail
        obtain ⟨xs, ys, rfl, hsplit⟩ := ih hrest
        refine ⟨x :: xs, ys, rfl, ?_⟩
        rcases hsplit with ⟨hb, hrun, rfl, hbehind⟩ | ⟨hb, rfl⟩
        · exact .inl ⟨hb, hrun, rfl, hbehind⟩
        · exact .inr ⟨hb, by simp [codedBody, runAfter, codedBit]⟩

/-! ## Runs of equal level -/

/-- The line ends with a run of exactly `run` bits of level `last`, at least one and at most five. -/
def EndsInRun (line : List Level) (last : Level) (run : Nat) : Prop :=
  1 ≤ run ∧ run ≤ 5 ∧ ∃ front, line = front ++ List.replicate run last ∧ front.getLast? ≠ some last

theorem EndsInRun.getLast? {line : List Level} {last : Level} {run : Nat} (h : EndsInRun line last run) :
    line.getLast? = some last := by
  obtain ⟨hpos, -, front, rfl, -⟩ := h
  obtain ⟨n, rfl⟩ := Nat.exists_eq_succ_of_ne_zero (by omega : run ≠ 0)
  simp [List.replicate_succ']

/-- A bit of the other level begins a new run. -/
theorem EndsInRun.change {line : List Level} {last b : Level} {run : Nat} (h : EndsInRun line last run)
    (hb : b ≠ last) : EndsInRun (line ++ [b]) b 1 :=
  ⟨le_rfl, by omega, line, rfl, by rw [h.getLast?]; simpa using hb.symm⟩

/-- A bit of the same level makes the run longer. -/
theorem EndsInRun.extend {line : List Level} {last : Level} {run : Nat} (h : EndsInRun line last run) (hrun : run < 5) :
    EndsInRun (line ++ [last]) last (run + 1) := by
  obtain ⟨-, -, front, rfl, hfront⟩ := h
  exact ⟨by omega, hrun, front, by simp [List.replicate_succ'], hfront⟩

/-- The next bit of the coded region, behind a level-change bit if one is due (R1). -/
theorem EndsInRun.next {line : List Level} {last : Level} {run : Nat} (h : EndsInRun line last run) (b : Level) :
    EndsInRun (line ++ (leadBits last run).map SentBit.level ++ [b]) b (nextRun last run b) := by
  by_cases hrun : run = 5
  · have hchange : EndsInRun (line ++ [!last]) (!last) 1 := h.change (by simp)
    by_cases hb : b = !last
    · subst hb; simpa [leadBits, nextRun, hrun] using hchange.extend (by omega)
    · simpa [leadBits, nextRun, hrun, hb] using hchange.change hb
  · have hlt : run < 5 := lt_of_le_of_ne h.2.1 hrun
    by_cases hb : b = last
    · subst hb; simpa [leadBits, nextRun, hrun] using h.extend hlt
    · simpa [leadBits, nextRun, hrun, hb] using h.change hb

theorem EndsInRun.codedBody {line : List Level} {last : Level} {run : Nat} (h : EndsInRun line last run)
    (bits : List Level) :
    EndsInRun (line ++ (codedBody last run bits).map SentBit.level) (runAfter last run bits).1
      (runAfter last run bits).2 := by
  induction bits generalizing line last run with
  | nil => simpa [Machine.codedBody, runAfter] using h
  | cons b bits ih => simpa [Machine.codedBody, runAfter, codedBit] using ih (h.next b)

/-- The last five bits are of equal level exactly at the end of a run of five. -/
theorem EndsInRun.lastFive_iff {line : List Level} {last : Level} {run : Nat} (h : EndsInRun line last run) :
    (5 ≤ line.length ∧ ∃ l, ∀ x ∈ line.drop (line.length - 5), x = l) ↔ run = 5 := by
  obtain ⟨hpos, hle, front, rfl, hfront⟩ := h
  refine ⟨fun ⟨hlen, l, hl⟩ => ?_, fun hrun => ?_⟩
  · by_contra hrun
    rcases List.eq_nil_or_concat' front with rfl | ⟨front', c, rfl⟩
    · simp at hlen; omega
    · have hdrop : (front' ++ [c] ++ List.replicate run last).length - 5 ≤ front'.length := by simp; omega
      rw [List.append_assoc, List.drop_append_of_le_length (by simpa using hdrop)] at hl
      have hc : c = l := hl c (by simp)
      have hlast : last = l := hl last (by simp; omega)
      simp [hc, hlast] at hfront
  · subst hrun
    exact ⟨by simp, last, by simp⟩

end Sys2Proof.Machine
end

section
/-! SUPPORT. Reception (R4): what the field bits decide, how the receiver follows a line bit by bit, and the frames it ends. -/

namespace Sys2Proof.Machine

/-! ## The fields of a frame -/

theorem frameKind_bits_length (kind : FrameKind) : kind.bits.length = 2 := by cases kind <;> rfl

theorem kindOfBits_bits (kind : FrameKind) : kindOfBits kind.bits = some kind := by cases kind <;> rfl

/-- Tag, kind code and length as they travel, for any kind code and length (R1). -/
def headerBits (tag : Tag) (kind : List Bool) (length : Nat) : List Bool :=
  natToBits 24 tag.toNat ++ kind ++ natToBits 6 length

/-- The two bits of the kind code among the field bits received. -/
def kindField (fields : List Bool) : List Bool := (fields.drop 24).take 2

/-- The number in the length field among the field bits received. -/
def lengthField (fields : List Bool) : Nat := bitsToNat ((fields.drop 26).take 6)

theorem headerBits_length {tag : Tag} {kind : List Bool} {length : Nat} (hk : kind.length = 2) :
    (headerBits tag kind length).length = 32 := by simp [headerBits, hk]

theorem kindField_tag_append (tag : Tag) {kind : List Bool} (rest : List Bool) (hk : kind.length = 2) :
    kindField (natToBits 24 tag.toNat ++ kind ++ rest) = kind := by
  rw [kindField, List.append_assoc, List.drop_left' (natToBits_length 24 _), List.take_left' hk]

theorem kindField_header_append {tag : Tag} {kind : List Bool} {length : Nat} (rest : List Bool)
    (hk : kind.length = 2) : kindField (headerBits tag kind length ++ rest) = kind := by
  rw [headerBits, List.append_assoc]
  exact kindField_tag_append tag _ hk

theorem lengthField_header_append {tag : Tag} {kind : List Bool} {length : Nat} (rest : List Bool)
    (hk : kind.length = 2) (hl : length < 64) : lengthField (headerBits tag kind length ++ rest) = length := by
  have hdrop : (natToBits 24 tag.toNat ++ kind).length = 26 := by simp [hk]
  rw [lengthField, headerBits, List.append_assoc, List.drop_left' hdrop, List.take_left' (natToBits_length 6 _),
    bitsToNat_natToBits hl]

/-- The fields received whole are those of every longer run. -/
theorem kindField_of_prefix {p whole : List Bool} (h : p <+: whole) (hp : 26 ≤ p.length) : kindField p = kindField whole := by
  obtain ⟨rest, rfl⟩ := h
  rw [kindField, kindField, List.drop_append_of_le_length (by omega), List.take_append_of_le_length (by simp; omega)]

theorem lengthField_of_prefix {p whole : List Bool} (h : p <+: whole) (hp : 32 ≤ p.length) :
    lengthField p = lengthField whole := by
  obtain ⟨rest, rfl⟩ := h
  rw [lengthField, lengthField, List.drop_append_of_le_length (by omega),
    List.take_append_of_le_length (by simp; omega)]

theorem Frame.checkedBits_eq (f : Frame) :
    f.checkedBits = headerBits f.tag f.kind.bits f.length ++ bytesToBits f.payload := by
  simp [Frame.checkedBits, Frame.arbitrationBits, headerBits]

/-- The length of a valid frame is at most 32, and its payload has the bytes that kind and length announce (R4). -/
theorem Frame.valid_iff (f : Frame) :
    f.valid = true ↔ f.length ≤ 32 ∧ f.payload.length = payloadSize f.kind f.length := by
  cases h : f.kind <;> simp [Frame.valid, payloadSize, h, Config.maxPayload]

theorem Frame.checkedBits_length {f : Frame} (h : f.valid = true) :
    f.checkedBits.length = 32 + 8 * payloadSize f.kind f.length := by
  rw [f.checkedBits_eq, List.length_append, headerBits_length (frameKind_bits_length _), bytesToBits_length,
    (f.valid_iff.mp h).2]

/-! ## What the field bits decide -/

/-- The receiver goes on while the fields received are in order and more bits are to come (R4). -/
theorem judgeFields_more {fields : List Bool}
    (h : 26 ≤ fields.length → ∃ kind, kindOfBits (kindField fields) = some kind ∧
      (32 ≤ fields.length →
        lengthField fields ≤ 32 ∧ fields.length < 48 + 8 * payloadSize kind (lengthField fields))) :
    judgeFields fields = .more := by
  have hkind : ¬ (fields.length = 26 ∧ kindOfBits (fields.drop 24) = none) := by
    rintro ⟨hlen, hnone⟩
    obtain ⟨kind, hk, -⟩ := h (by omega)
    rw [kindField, List.take_of_length_le (by simp; omega), hnone] at hk
    simp at hk
  have hlength : ¬ (fields.length = 32 ∧ Config.maxPayload < bitsToNat (fields.drop 26)) := by
    rintro ⟨hlen, hlong⟩
    obtain ⟨kind, -, hl⟩ := h (by omega)
    have hshort := (hl (by omega)).1
    rw [lengthField, List.take_of_length_le (by simp; omega)] at hshort
    exact absurd hlong (by simpa [Config.maxPayload] using hshort)
  rw [judgeFields, if_neg hkind, if_neg hlength]
  by_cases hshort : fields.length < 32
  · rw [if_pos hshort]
  · obtain ⟨kind, hk, hl⟩ := h (by omega)
    obtain ⟨-, hmore⟩ := hl (by omega)
    rw [if_neg hshort]
    simp only [kindField] at hk
    simp only [lengthField] at hmore
    simp only [hk, if_pos hmore]

theorem judgeFields_kindCode {fields : List Bool} (hlen : fields.length = 26) (hk : kindOfBits (kindField fields) = none) :
    judgeFields fields = .fault (.invalidFormat .kindCode) := by
  rw [kindField, List.take_of_length_le (by simp [hlen])] at hk
  rw [judgeFields, if_pos ⟨hlen, hk⟩]

theorem judgeFields_length {fields : List Bool} (hlen : fields.length = 32) (hl : 32 < lengthField fields) :
    judgeFields fields = .fault (.invalidFormat .length) := by
  rw [lengthField, List.take_of_length_le (by simp [hlen])] at hl
  rw [judgeFields, if_neg (by omega), if_pos ⟨hlen, hl⟩]

/-- The last check bit of a frame that is in order up to its check decides between the frame and a check fault (R4). -/
theorem judgeFields_lastBit {f : Frame} (hf : f.valid = true) (check : Word16) :
    judgeFields (f.checkedBits ++ natToBits 16 check.toNat) =
      if check = frameCheck f.checkedBits then .complete f else .fault .invalidCheck := by
  obtain ⟨hmax, hpayload⟩ := f.valid_iff.mp hf
  have hlen := Frame.checkedBits_length hf
  have hk := kindField_header_append (tag := f.tag) (length := f.length)
    (bytesToBits f.payload ++ natToBits 16 check.toNat) (frameKind_bits_length f.kind)
  have hl := lengthField_header_append (tag := f.tag) (length := f.length)
    (bytesToBits f.payload ++ natToBits 16 check.toNat) (frameKind_bits_length f.kind) (by omega)
  rw [← List.append_assoc, ← Frame.checkedBits_eq] at hk hl
  have htag : (f.checkedBits ++ natToBits 16 check.toNat).take 24 = natToBits 24 f.tag.toNat := by
    simp only [f.checkedBits_eq, headerBits, List.append_assoc]
    exact List.take_left' (natToBits_length 24 _)
  have hbytes : (f.checkedBits ++ natToBits 16 check.toNat).drop 32 =
      bytesToBits f.payload ++ natToBits 16 check.toNat := by
    rw [f.checkedBits_eq, List.append_assoc, List.drop_left' (headerBits_length (frameKind_bits_length _))]
  have hread : bitsToBytes (payloadSize f.kind f.length) ((f.checkedBits ++ natToBits 16 check.toNat).drop 32) =
      f.payload := by
    rw [hbytes, ← hpayload, bitsToBytes_bytesToBits]
  have hcheck : ((f.checkedBits ++ natToBits 16 check.toNat).drop (32 + 8 * payloadSize f.kind f.length)).take 16 =
      natToBits 16 check.toNat := by
    rw [List.drop_left' hlen, List.take_of_length_le (by simp)]
  simp only [kindField] at hk
  simp only [lengthField] at hl
  have hwhole : (f.checkedBits ++ natToBits 16 check.toNat).length = 48 + 8 * payloadSize f.kind f.length := by
    rw [List.length_append, hlen, natToBits_length]; omega
  rw [judgeFields, if_neg (by omega), if_neg (by omega), if_neg (by omega)]
  simp only [hk, kindOfBits_bits, hl, hwhole, lt_irrefl, if_false, hcheck, List.take_left' hlen, bitsToNat_toNat, htag,
    hread, BitVec.ofNat_toNat, BitVec.setWidth_eq, BitVec.toNat_inj]

/-- The field bits `fields` end no frame before their last bit. -/
def Unfinished (fields : List Bool) : Prop :=
  ∀ p, p <+: fields → p ≠ fields → judgeFields p = .more

theorem length_lt_of_proper_prefix {α : Type} {p whole : List α} (h : p <+: whole) (hne : p ≠ whole) :
    p.length < whole.length :=
  lt_of_le_of_ne h.length_le fun he => hne (h.eq_of_length he)

theorem unfinished_kindCode (tag : Tag) {kind : List Bool} (hk : kind.length = 2) :
    Unfinished (natToBits 24 tag.toNat ++ kind) := by
  intro p hp hne
  have hlt := length_lt_of_proper_prefix hp hne
  exact judgeFields_more fun h => by simp [hk] at hlt; omega

theorem unfinished_header (tag : Tag) (kind : FrameKind) (length : Nat) :
    Unfinished (headerBits tag kind.bits length) := by
  intro p hp hne
  have hlt := length_lt_of_proper_prefix hp hne
  rw [headerBits_length (frameKind_bits_length kind)] at hlt
  refine judgeFields_more fun h => ⟨kind, ?_, fun h32 => by omega⟩
  have hk := kindField_header_append (tag := tag) (length := length) [] (frameKind_bits_length kind)
  rw [List.append_nil] at hk
  rw [kindField_of_prefix hp h, hk, kindOfBits_bits]

theorem unfinished_frame {f : Frame} (hf : f.valid = true) (check : Word16) :
    Unfinished (f.checkedBits ++ natToBits 16 check.toNat) := by
  intro p hp hne
  have hlt := length_lt_of_proper_prefix hp hne
  obtain ⟨hmax, -⟩ := f.valid_iff.mp hf
  rw [List.length_append, Frame.checkedBits_length hf, natToBits_length] at hlt
  rw [f.checkedBits_eq, List.append_assoc] at hp
  refine judgeFields_more fun h => ⟨f.kind, ?_, fun h32 => ?_⟩
  · rw [kindField_of_prefix hp h, kindField_header_append _ (frameKind_bits_length _), kindOfBits_bits]
  · rw [lengthField_of_prefix hp h32, lengthField_header_append _ (frameKind_bits_length _) (by omega)]
    exact ⟨hmax, by omega⟩

/-! ## The receiver on the coded region -/

/-- A field bit after which more are to come, behind the level-change bit if one is due. -/
theorem rxRun_bit_more {last b : Level} {run : Nat} {fields : List Bool} (rest : List Level)
    (h : judgeFields (fields ++ [b]) = .more) :
    rxRun (.coded last run fields) ((leadBits last run).map SentBit.level ++ b :: rest) =
      rxRun (.coded b (nextRun last run b) (fields ++ [b])) rest := by
  by_cases hrun : run = 5 <;> simp [leadBits, rxRun, rxBit, nextRun, hrun, h]

theorem rxRun_bit_fault {last b : Level} {run : Nat} {fields : List Bool} {v : Verdict}
    (h : judgeFields (fields ++ [b]) = .fault v) :
    rxRun (.coded last run fields) ((leadBits last run).map SentBit.level ++ [b]) = some v := by
  by_cases hrun : run = 5 <;> simp [leadBits, rxRun, rxBit, hrun, h]

theorem rxRun_bit_complete {last b : Level} {run : Nat} {fields : List Bool} {f : Frame} (rest : List Level)
    (h : judgeFields (fields ++ [b]) = .complete f) :
    rxRun (.coded last run fields) ((leadBits last run).map SentBit.level ++ b :: rest) =
      rxRun (if nextRun last run b = 5 then .lastLevelChange b f else .acknowledge f) rest := by
  by_cases hrun : run = 5
  · have hfirst : (if b = !last then 2 else 1) ≠ 5 := by split <;> omega
    simp [leadBits, rxRun, rxBit, nextRun, hrun, h, hfirst]
  · by_cases hnext : nextRun last run b = 5 <;> simp_all [leadBits, rxRun, rxBit, nextRun]

/-- The receiver follows a coded region bit by bit, removing the level-change bits, as long as it finds no fault. -/
theorem rxRun_codedBody {last : Level} {run : Nat} {fields bits : List Bool} (rest : List Level)
    (h : ∀ p, p <+: bits → p ≠ [] → judgeFields (fields ++ p) = .more) :
    rxRun (.coded last run fields) ((codedBody last run bits).map SentBit.level ++ rest) =
      rxRun (.coded (runAfter last run bits).1 (runAfter last run bits).2 (fields ++ bits)) rest := by
  induction bits generalizing last run fields with
  | nil => simp [codedBody, runAfter]
  | cons b bits ih =>
    have hb : judgeFields (fields ++ [b]) = .more := h [b] (by simp) (by simp)
    have hbits : ∀ p, p <+: bits → p ≠ [] → judgeFields ((fields ++ [b]) ++ p) = .more := fun p hp _ => by
      simpa using h (b :: p) (by simpa using hp) (by simp)
    simp only [codedBody, codedBit, List.map_append, List.map_cons, List.append_assoc, List.cons_append]
    rw [rxRun_bit_more _ hb, ih hbits]
    simp [runAfter]

/-- The phase of the receiver after the coded region of a frame whose check is right. -/
def phaseAfter (fields : List Bool) (f : Frame) : RxPhase :=
  if (runAfter false 1 fields).2 = 5 then .lastLevelChange (runAfter false 1 fields).1 f else .acknowledge f

section
variable {fields : List Bool} (hopen : Unfinished fields)
include hopen

/-- The field bits but for those at the end of which the frame may be over. -/
theorem rxRun_open {xs ys : List Bool} (hsplit : fields = xs ++ ys) (hys : ys ≠ []) (rest : List Level) :
    rxRun (.coded false 1 []) ((codedBody false 1 xs).map SentBit.level ++ rest) =
      rxRun (.coded (runAfter false 1 xs).1 (runAfter false 1 xs).2 xs) rest := by
  refine (rxRun_codedBody rest fun p hp _ => ?_).trans (by simp)
  obtain ⟨zs, rfl⟩ := hp
  refine hopen p ⟨zs ++ ys, by simp [hsplit]⟩ fun he => hys ?_
  have := congrArg List.length (he.trans hsplit)
  simp only [List.length_append] at this
  exact List.eq_nil_of_length_eq_zero (by omega)

theorem rxRun_fields_fault {v : Verdict} (h : judgeFields fields = .fault v) :
    rxRun (.coded false 1 []) ((codedBody false 1 fields).map SentBit.level) = some v := by
  rcases List.eq_nil_or_concat' fields with rfl | ⟨xs, b, rfl⟩
  · simp [judgeFields] at h
  · simp only [codedBody_append, codedBody, List.map_append, List.map_cons, codedBit, List.map_nil]
    rw [rxRun_open hopen rfl (by simp), rxRun_bit_fault h]

theorem rxRun_fields_complete {f : Frame} (h : judgeFields fields = .complete f) (rest : List Level) :
    rxRun (.coded false 1 []) ((codedBody false 1 fields).map SentBit.level ++ rest) =
      rxRun (phaseAfter fields f) rest := by
  rcases List.eq_nil_or_concat' fields with rfl | ⟨xs, b, rfl⟩
  · simp [judgeFields] at h
  · simp only [codedBody_append, codedBody, List.map_append, List.map_cons, codedBit, List.map_nil, List.append_assoc,
      List.cons_append, List.nil_append]
    rw [rxRun_open hopen rfl (by simp), rxRun_bit_complete rest h]
    simp [phaseAfter, runAfter_append, runAfter]

/-- The receiver comes to the acknowledge bit of a frame whose check is right. -/
theorem rxRun_fields_acknowledge {f : Frame} (h : judgeFields fields = .complete f) (rest : List Level) :
    rxRun (.coded false 1 []) ((insertLevelChanges false 1 (fields.map codedBit)).map SentBit.level ++ rest) =
      rxRun (.acknowledge f) rest := by
  rw [insertLevelChanges_eq_codedBody, List.map_append, List.append_assoc, rxRun_fields_complete hopen h]
  by_cases hrun : (runAfter false 1 fields).2 = 5 <;> simp [phaseAfter, leadBits, hrun, rxRun, rxBit]

end

/-! ## The line of a frame from its start delimiter -/

/-- The coded region of some field bits as it is sent, level-change bits included (R1). -/
def codedLine (fields : List Bool) : List SentBit := insertLevelChanges true 0 ((false :: fields).map codedBit)

theorem codedLine_eq (fields : List Bool) :
    codedLine fields = codedBit false :: insertLevelChanges false 1 (fields.map codedBit) := by
  rw [codedLine, List.map_cons, insertLevelChanges_cons]
  rfl

theorem receive_codedBit (line : List SentBit) (rest : List Level) :
    receive ((codedBit false :: line).map SentBit.level ++ rest) =
      rxRun (.coded false 1 []) (line.map SentBit.level ++ rest) := rfl

/-- What may stand behind the last bit of a coded region: nothing, or one level-change bit. -/
def IsTrail (trail : List SentBit) : Prop := trail = [] ∨ ∃ b, trail = [b] ∧ b.role = .levelChange

theorem isTrail_leadBits (last : Level) (run : Nat) : IsTrail (leadBits last run) := by
  by_cases h : run = 5
  · exact .inr ⟨⟨!last, .levelChange⟩, by simp [leadBits, h], rfl⟩
  · exact .inl (by simp [leadBits, h])

/-- There is one place at which a line can be cut behind its last bit of the coded region. -/
theorem cut_unique {body body' trail trail' : List SentBit} (h : body ++ trail = body' ++ trail')
    (ht : IsTrail trail) (ht' : IsTrail trail') (hb : ∀ x ∈ body.getLast?, x.role = .coded)
    (hb' : ∀ x ∈ body'.getLast?, x.role = .coded) : body = body' := by
  rcases ht with rfl | ⟨c, rfl, hc⟩ <;> rcases ht' with rfl | ⟨c', rfl, hc'⟩
  · simpa using h
  · obtain rfl : body = body' ++ [c'] := by simpa using h
    simp [hc'] at hb
  · obtain rfl : body' = body ++ [c] := by simpa using h.symm
    simp [hc] at hb'
  · exact List.append_inj_left' h rfl

theorem codedLine_cut {fields : List Bool} {body trail : List SentBit} (h : codedLine fields = body ++ trail)
    (ht : IsTrail trail) (hb : ∀ x ∈ body.getLast?, x.role = .coded) :
    body = codedBit false :: codedBody false 1 fields := by
  rw [codedLine_eq, insertLevelChanges_eq_codedBody, ← List.cons_append] at h
  refine cut_unique h.symm ht (isTrail_leadBits _ _) hb fun x hx => ?_
  rcases List.eq_nil_or_concat' fields with rfl | ⟨xs, b, rfl⟩
  · obtain rfl : codedBit false = x := by simpa [codedBody] using hx
    rfl
  · obtain ⟨front, hfront⟩ := codedBody_concat false 1 xs b
    rw [hfront, ← List.cons_append, List.getLast?_append] at hx
    obtain rfl : codedBit b = x := by simpa using hx
    rfl

/-! ## Where the level-change bits stand -/

/-- Behind a level-change bit that was due, the run is shorter than five. -/
theorem EndsInRun.lead {line : List Level} {last : Level} {run : Nat} (h : EndsInRun line last run) :
    ∃ last' run', run' ≠ 5 ∧ EndsInRun (line ++ (leadBits last run).map SentBit.level) last' run' := by
  by_cases hrun : run = 5
  · exact ⟨!last, 1, by omega, by simpa [leadBits, hrun] using h.change (by simp)⟩
  · exact ⟨last, run, hrun, by simpa [leadBits, hrun] using h⟩

theorem EndsInRun.lastFive_level_iff {line : List SentBit} {last : Level} {run : Nat}
    (h : EndsInRun (line.map SentBit.level) last run) :
    (5 ≤ line.length ∧ ∃ l, ∀ x ∈ line.drop (line.length - 5), x.level = l) ↔ run = 5 := by
  rw [← h.lastFive_iff]
  simp [← List.map_drop]

/-- A level-change bit stands exactly behind five bits of equal level, and has the opposite level (R1). -/
theorem levelChange_iff {bits : List Level} {before behind : List SentBit} {b : SentBit}
    (h : codedLine bits ++ [⟨true, .acknowledge⟩] = before ++ b :: behind) :
    (b.role = .levelChange ↔ 5 ≤ before.length ∧ ∃ l, ∀ x ∈ before.drop (before.length - 5), x.level = l) ∧
      (b.role = .levelChange → ∀ x ∈ before.getLast?, b.level = !x.level) := by
  rw [codedLine_eq, List.cons_append] at h
  rcases before with _ | ⟨c, before⟩
  · obtain ⟨rfl, -⟩ := List.cons.inj h
    simp [codedBit]
  · obtain ⟨rfl, hrest⟩ := List.cons.inj h
    obtain ⟨xs, ys, -, hcase⟩ := line_split hrest
    have hstart : EndsInRun [false] false 1 := ⟨le_rfl, by omega, [], rfl, by simp⟩
    have hbody : EndsInRun ((codedBit false :: codedBody false 1 xs).map SentBit.level) _ _ := hstart.codedBody xs
    rcases hcase with ⟨rfl, hfive, rfl, -⟩ | ⟨hb, rfl⟩
    · refine ⟨iff_of_true rfl (hbody.lastFive_level_iff.mpr hfive), fun _ x hx => ?_⟩
      have hlast := hbody.getLast?
      rw [List.getLast?_map, Option.mem_def.mp hx] at hlast
      rw [← Option.some.inj hlast]
    · obtain ⟨last, run, hrun, hlead⟩ := hbody.lead
      rw [← List.map_append, List.cons_append] at hlead
      exact ⟨iff_of_false hb fun hfive => hrun (hlead.lastFive_level_iff.mp hfive), fun h => absurd h hb⟩

/-! ## Frames that end -/

/-- A fault that the field bits show ends the frame at the last of them (R4). -/
theorem receive_fields_fault {fields : List Bool} {v : Verdict} {body trail : List SentBit} (hopen : Unfinished fields)
    (hj : judgeFields fields = .fault v) (h : codedLine fields = body ++ trail) (ht : IsTrail trail)
    (hb : ∀ x ∈ body.getLast?, x.role = .coded) : receive (body.map SentBit.level) = some v := by
  rw [codedLine_cut h ht hb]
  exact rxRun_fields_fault hopen hj

/-- A sixth bit of equal level ends the frame at that bit, unless the check has ended it before (R4). -/
theorem receive_levelFault {fields : List Bool} {before behind : List SentBit} {b : SentBit} (hopen : Unfinished fields)
    (h : codedLine fields = before ++ b :: behind) (hb : b.role = .levelChange)
    (hend : (∃ f, judgeFields fields = .complete f) ∨ behind ≠ []) :
    receive (before.map SentBit.level ++ [!b.level]) = some (.invalidFormat .level) := by
  rw [codedLine_eq] at h
  rcases before with _ | ⟨c, before⟩
  · obtain ⟨rfl, -⟩ := List.cons.inj h
    simp [codedBit] at hb
  · obtain ⟨rfl, hrest⟩ := List.cons.inj h
    obtain ⟨xs, ys, hsplit, hcase⟩ := line_split (b := b) (before := before) (behind := behind ++ [⟨true, .acknowledge⟩])
      (by rw [hrest]; simp)
    obtain ⟨rfl, hrun, rfl, hlast⟩ := hcase.resolve_right fun hno => hno.1 hb
    rw [receive_codedBit]
    by_cases hys : ys = []
    · obtain rfl : fields = xs := by simpa [hys] using hsplit
      obtain ⟨f, hf⟩ := hend.resolve_right fun hne => hne (by simpa using hlast hys)
      rw [rxRun_fields_complete hopen hf, phaseAfter, if_pos hrun]
      simp [rxRun, rxBit]
    · rw [rxRun_open hopen hsplit hys, hrun]
      simp [rxRun, rxBit]

/-- A dominant bit in the end delimiter ends the frame at that bit (R4). -/
theorem rxRun_delimiter_dominant (f : Frame) {left k : Nat} (h : k < left) :
    rxRun (.delimiter f left) (List.replicate k true ++ [false]) = some (.invalidFormat .delimiter) := by
  induction k generalizing left with
  | zero => rfl
  | succ k ih =>
    rw [List.replicate_succ, List.cons_append, rxRun, rxBit, if_neg (by simp), if_neg (by omega)]
    exact ih (by omega)

/-- The line of a valid frame up to its acknowledge bit (R1, R7). -/
theorem Frame.lineLevels_eq_codedLine (f : Frame) (acknowledge : Level) :
    f.lineLevels acknowledge =
      (codedLine (f.checkedBits ++ f.checkBits)).map SentBit.level ++ acknowledge :: List.replicate 8 true := by
  have hcoded : ∀ b ∈ insertLevelChanges true 0 f.codedBits, SentBit.readBack acknowledge b = b.level := by
    intro b hb
    have hrole : b.role ≠ .acknowledge := by
      rcases mem_insertLevelChanges hb with h | h
      · simp [h]
      · simp only [Frame.codedBits, List.mem_cons, List.mem_append, List.mem_map] at h
        rcases h with rfl | ⟨_, _, rfl⟩ | ⟨_, _, rfl⟩ <;> simp
    simp [SentBit.readBack, hrole]
  have hlevels : f.codedBits.map SentBit.level =
      ((false :: (f.checkedBits ++ f.checkBits)).map codedBit).map SentBit.level := by
    simp [Frame.codedBits, Frame.checkedBits, codedBit, Function.comp_def]
  rw [Frame.lineLevels_eq, Frame.sentBits, List.map_append, List.map_congr_left hcoded,
    insertLevelChanges_levels true 0 hlevels]
  simp [codedLine, SentBit.readBack]

/-- Behind the coded region of a valid frame the receiver stands before the acknowledge bit. -/
theorem receive_validFrame {f : Frame} (hf : f.valid = true) (rest : List Level) :
    receive ((codedLine (f.checkedBits ++ f.checkBits)).map SentBit.level ++ rest) = rxRun (.acknowledge f) rest := by
  have hj : judgeFields (f.checkedBits ++ f.checkBits) = .complete f :=
    (judgeFields_lastBit hf (frameCheck f.checkedBits)).trans (if_pos rfl)
  rw [codedLine_eq, receive_codedBit]
  exact rxRun_fields_acknowledge (unfinished_frame hf _) hj rest

theorem receive_lineLevels {f : Frame} (hf : f.valid = true) (acknowledge : Level) :
    receive (f.lineLevels acknowledge) = some (.valid f) := by
  rw [f.lineLevels_eq_codedLine, receive_validFrame hf]
  rfl

/-! ## A frame ends at most once -/

theorem rxRun_append_none {phase : RxPhase} {bits more : List Level} {v : Verdict} (h : rxRun phase bits = some v)
    (hm : more ≠ []) : rxRun phase (bits ++ more) = none := by
  induction bits generalizing phase with
  | nil => simp [rxRun] at h
  | cons b bits ih =>
    rw [List.cons_append, rxRun]
    rw [rxRun] at h
    cases hb : rxBit phase b with
    | inl next => rw [hb] at h; exact ih h
    | inr w => simp [hm]

theorem receive_append_none {levels more : List Level} {v : Verdict} (h : receive levels = some v) (hm : more ≠ []) :
    receive (levels ++ more) = none := by
  rcases levels with _ | ⟨_ | _, bits⟩
  · simp [receive] at h
  · exact rxRun_append_none (by simpa [receive] using h) hm
  · simp [receive] at h

/-! ## Whatever is received valid is a valid frame -/

/-- What a receiver has found in order so far: the length, once it is whole, and the frame, once its check is. -/
def RxPhase.Sound : RxPhase → Prop
  | .coded _ _ fields => 32 ≤ fields.length → lengthField fields ≤ 32
  | .lastLevelChange _ f | .acknowledge f | .delimiter f _ => f.valid = true

/-- No length above 32 passes the last length bit (R4). -/
theorem lengthField_of_no_fault {fields : List Bool} {b : Bool}
    (hsound : 32 ≤ fields.length → lengthField fields ≤ 32)
    (hj : ∀ v, judgeFields (fields ++ [b]) ≠ .fault v) (hlen : 32 ≤ (fields ++ [b]).length) :
    lengthField (fields ++ [b]) ≤ 32 := by
  by_cases hlast : (fields ++ [b]).length = 32
  · by_contra hlong
    exact hj _ (judgeFields_length hlast (by omega))
  · have h32 : 32 ≤ fields.length := by simp at hlen hlast; omega
    rw [← lengthField_of_prefix (List.prefix_append fields [b]) h32]
    exact hsound h32

/-- The field bits decide nothing yet, or show a fault, or complete a frame whose length and payload they hold; they never end a
frame valid, since the end delimiter is still to come (R4). -/
theorem judgeFields_cases (fields : List Bool) :
    judgeFields fields = .more ∨ (∃ v, judgeFields fields = .fault v ∧ ∀ f, v ≠ .valid f) ∨
      ∃ f, judgeFields fields = .complete f ∧ 32 ≤ fields.length ∧ f.length = lengthField fields ∧
        f.payload.length = payloadSize f.kind f.length := by
  unfold judgeFields
  split
  · exact .inr (.inl ⟨_, rfl, by simp⟩)
  · split
    · exact .inr (.inl ⟨_, rfl, by simp⟩)
    · split
      · exact .inl rfl
      · next hlen =>
        split
        · exact .inr (.inl ⟨_, rfl, by simp⟩)
        · dsimp only
          split
          · exact .inl rfl
          · split
            · exact .inr (.inr ⟨_, rfl, by omega, rfl, by simp⟩)
            · exact .inr (.inl ⟨_, rfl, by simp⟩)

/-- One line bit keeps the receiver sound, and a frame that it ends valid is a valid frame. -/
theorem RxPhase.Sound.bit {phase : RxPhase} (hs : phase.Sound) (b : Level) :
    (∀ next, rxBit phase b = .inl next → next.Sound) ∧
      ∀ f, rxBit phase b = .inr (.valid f) → f.valid = true := by
  cases phase with
  | coded last run fields =>
    by_cases hrun : run = 5
    · by_cases hb : b = last
      · simp [rxBit, hrun, hb]
      · simpa [rxBit, hrun, hb, RxPhase.Sound] using hs
    · have hlength := lengthField_of_no_fault (b := b) hs
      rcases judgeFields_cases (fields ++ [b]) with hj | ⟨v, hj, hv⟩ | ⟨f, hj, hlen, hfl, hpayload⟩
      · simpa [rxBit, hrun, hj, RxPhase.Sound] using hlength (by simp [hj])
      · simpa [rxBit, hrun, hj] using fun f hf => absurd hf (hv f)
      · have hvalid : f.valid = true := f.valid_iff.mpr ⟨hfl ▸ hlength (by simp [hj]) hlen, hpayload⟩
        by_cases hnext : (if b = last then run + 1 else 1) = 5
        · have hbit : rxBit (.coded last run fields) b = .inl (.lastLevelChange b f) := by
            simp only [rxBit, if_neg hrun, hj, if_pos hnext]
          simpa [hbit, RxPhase.Sound] using hvalid
        · have hbit : rxBit (.coded last run fields) b = .inl (.acknowledge f) := by
            simp only [rxBit, if_neg hrun, hj, if_neg hnext]
          simpa [hbit, RxPhase.Sound] using hvalid
  | lastLevelChange last f => by_cases hb : b = last <;> simp_all [rxBit, RxPhase.Sound]
  | acknowledge f => simpa [rxBit, RxPhase.Sound] using hs
  | delimiter f left =>
    cases b with
    | false => simp [rxBit]
    | true => by_cases hl : left ≤ 1 <;> simpa [rxBit, hl, RxPhase.Sound] using hs

theorem rxRun_valid {phase : RxPhase} (hs : phase.Sound) {bits : List Level} {f : Frame}
    (h : rxRun phase bits = some (.valid f)) : f.valid = true := by
  induction bits generalizing phase with
  | nil => simp [rxRun] at h
  | cons b bits ih =>
    rw [rxRun] at h
    cases hb : rxBit phase b with
    | inl next =>
      rw [hb] at h
      exact ih ((hs.bit b).1 next hb) h
    | inr v =>
      obtain ⟨-, rfl⟩ : bits = [] ∧ v = .valid f := by simpa [hb] using h
      exact (hs.bit b).2 f hb

theorem receive_valid {levels : List Level} {f : Frame} (h : receive levels = some (.valid f)) : f.valid = true := by
  rcases levels with _ | ⟨_ | _, bits⟩
  · simp [receive] at h
  · exact rxRun_valid (phase := .coded false 1 []) (by simp [RxPhase.Sound]) (by simpa [receive] using h)
  · simp [receive] at h

/-! ## The statement's own spelling of the fields and of the check -/

theorem crcBit_frame_eq (c : Word16) (b : Bool) :
    crcBit 0x8BB7#16 c b = if c.getLsbD 15 != b then (c <<< 1) ^^^ 0x8BB7#16 else c <<< 1 := by
  rw [crcBit, BitVec.msb_eq_getLsbD_last]

theorem FrameKind.bits_eq (kind : FrameKind) :
    kind.bits = if kind = .data then [false, true] else [true, false] := by cases kind <;> rfl

/-- Settles O38, part by part in the order of the statement, after its spelling of the fields has been turned into the model's. -/
theorem frameReceivedAsSent : Obligations.FrameReceivedAsSent := by
  unfold Obligations.FrameReceivedAsSent
  intro bitsOf header fields check whole stuffed levels trailed
  have hbits (w n : Nat) : bitsOf w n = natToBits w n := (natToBits_eq_map_range w n).symm
  have hheader (tag : Tag) (kind : List Bool) (length : Nat) : header tag kind length = headerBits tag kind length := by
    simp only [header, hbits, headerBits]
  have hfields (f : Frame) : fields f = f.checkedBits := by
    simp only [fields, hheader, hbits, f.checkedBits_eq, f.kind.bits_eq, bytesToBits]
  have hcheck (bits : List Bool) : check bits = frameCheck bits := by
    simp only [check, frameCheck, crcOf, funext₂ crcBit_frame_eq]
  have hwhole (f : Frame) : whole (fields f) = f.checkedBits ++ f.checkBits := by
    simp only [whole, hfields, hbits, hcheck, Frame.checkBits]
  refine ⟨fun bits => ⟨filter_insertLevelChanges true 0 (false :: bits), fun _ _ _ => levelChange_iff⟩,
    fun f acknowledge hf => ⟨?_, receive_lineLevels hf acknowledge, fun k hk => ?_⟩,
    fun f wrong body trail hf hwrong hline ht hb => ?_, fun f any before behind b hf hline hb hend => ?_,
    fun tag k body trail hline ht hb => ?_, fun tag k length body trail hmin hmax hline ht hb => ?_,
    fun _ _ _ => receive_append_none, fun _ _ => receive_valid⟩
  · rw [hwhole]
    exact f.lineLevels_eq_codedLine acknowledge
  · rw [hwhole]
    exact (receive_validFrame hf _).trans (rxRun_delimiter_dominant f hk)
  · rw [hfields, hbits] at hline
    rw [hfields, hcheck] at hwrong
    exact receive_fields_fault (unfinished_frame hf wrong) ((judgeFields_lastBit hf wrong).trans (if_neg hwrong)) hline ht hb
  · rw [hfields, hbits] at hline
    rw [hfields, hcheck] at hend
    refine receive_levelFault (unfinished_frame hf any) hline hb (hend.imp_left fun hany => ⟨f, ?_⟩)
    exact (judgeFields_lastBit hf any).trans (if_pos hany)
  · rw [hbits] at hline
    have hkind : kindField (natToBits 24 tag.toNat ++ [k, k]) = [k, k] := by
      simpa using kindField_tag_append tag (kind := [k, k]) [] rfl
    refine receive_fields_fault (unfinished_kindCode tag rfl) (judgeFields_kindCode (by simp) ?_) hline ht hb
    rw [hkind]
    cases k <;> rfl
  · obtain ⟨kind, hk⟩ : ∃ kind : FrameKind, kind.bits = [k, !k] := by
      cases k
      · exact ⟨.data, rfl⟩
      · exact ⟨.query, rfl⟩
    rw [hheader, ← hk] at hline
    have hlength : lengthField (headerBits tag kind.bits length) = length := by
      simpa using lengthField_header_append (tag := tag) [] (frameKind_bits_length kind) hmax
    exact receive_fields_fault (unfinished_header tag kind length)
      (judgeFields_length (headerBits_length (frameKind_bits_length kind)) (by rw [hlength]; exact hmin)) hline ht hb

end Sys2Proof.Machine
end

section
/-! SUPPORT. The frame store at its edges: the release of a slot, the slot decision of a tap, the settings of the receivers, and the
placing of a host entry's frame. -/

namespace Sys2Proof.Machine

/-! ## Release -/

theorem Holders.isEmpty_iff (h : Holders) : h.isEmpty = true ↔ h = ⟨false, false, false⟩ := by
  rcases h with ⟨_ | _, _ | _, _ | _⟩ <;> simp [Holders.isEmpty]

/-- Freeing a HELD slot (R28). -/
theorem Store.free_held {st : Store} {n : SlotNo} {source : Source} {record : SlotRecord} {holders : Holders}
    (h : st.slot n = .held source record holders) :
    st.free n = { st with
      slots := st.slots.set n .free
      freeList := st.freeList ++ [n]
      use := lowerUse st.use (Slot.held source record holders).usedBy } := by
  simp [Store.free, h]

/-- Settles O17: the holders that are left decide between `Store.leave_held` and `Store.leave_last`. -/
theorem lastHolderReleasesSlot : Obligations.LastHolderReleasesSlot := by
  intro st h n source record holders hs left
  have hleft : left = holders.without h := by cases h <;> rfl
  refine ⟨fun hne => ?_, fun hempty => ?_⟩
  · have hsome : (holders.without h).isEmpty = false :=
      Bool.eq_false_iff.mpr fun he => hne (hleft.trans ((Holders.isEmpty_iff _).mp he))
    rw [Store.leave_held hs hsome, hleft]
    rfl
  · rw [Store.leave_last hs ((Holders.isEmpty_iff _).mpr (hleft ▸ hempty)), Store.free_held hs]
    cases source <;> rfl

/-! ## The slot decision of a tap -/

/-- The entries that hold a slot, counted over the entry numbers (R19). -/
theorem State.holdingEntries_eq (s : State) :
    s.holdingEntries = (List.finRange 8).countP fun e => (s.entry e).state = .pending ∨ (s.entry e).state = .inFlight := by
  have hlist : s.entries.toList = (List.finRange 8).map s.entry := by
    apply List.ext_getElem <;> simp [State.entry, Vector.get]
  rw [State.holdingEntries, hlist, List.countP_map]
  congr 1
  funext e
  simp [HostEntry.holdsSlot]

/-- Settles O27: the three decisions of `State.allocate`, and the tap record the decision leaves. -/
theorem tapStartOfFrameDecision : Obligations.TapStartOfFrameDecision := by
  intro s t hstate hsync hprogress i following need
  have hneed : s.reserveNeed = need := by rw [State.reserveNeed, State.holdingEntries_eq]
  have htap (a : State × InProgress) (ha : a.1.taps = s.taps) :
      a.1.modTap t (fun tap => { tap with inProgress := some a.2, synchronised := false, idleCount := 0 }) =
        { a.1 with taps := following a.2 } := by
    simp only [State.modTap, State.tap, ha, following]
    rw [← hstate]
    rfl
  have hexec : exec (.tapStartOfFrame t) s =
      .next ((s.allocate i s.stamp).1.modTap t fun tap =>
        { tap with inProgress := some (s.allocate i s.stamp).2, synchronised := false, idleCount := 0 }) := by
    simp [exec, execTapStartOfFrame, hstate, hsync, hprogress, i, tapIngress]
  rw [hexec]
  refine ⟨fun hquota => ?_, fun hquota hfree => ?_, fun n rest hquota hfree hn => ?_⟩
  · rw [State.allocate_over s.stamp hquota, htap _ rfl]
  · rw [State.allocate_none s.stamp hquota (hneed ▸ hfree), htap _ rfl]
  · rw [State.allocate_granted s.stamp hquota (hneed ▸ hfree) hn, htap _ rfl]

/-! ## Settings -/

theorem byteOf_toNat (b : Byte) : byteOf b.toNat = b := by simp [byteOf]

/-- A request whose checks are made first: the first that fails refuses it, and otherwise it goes on with what they found
(R158). -/
theorem State.serve_checked {α : Type} {s : State} {r : Request} {rest : List Request} {code : Option RequestCode}
    {act : Request → State → State} {check : Except Refused α} {go : α → State} (hr : s.Ready r rest)
    (hcode : requestOf r.body = code)
    (hact : act r { s with engine := { s.engine with inbox := rest } } =
      State.afterCheck { s with engine := { s.engine with inbox := rest } } r check go) :
    (∀ x d, check = .error (x, d) → s.serve code act = s.replied r rest x d []) ∧
      ∀ a, check = .ok a → s.serve code act = go a := by
  rw [State.serve_ready act hr hcode, hact]
  refine ⟨fun x d hc => ?_, fun a hc => ?_⟩
  · rw [hc, State.afterCheck_error, State.refuse_eq]
    rfl
  · rw [hc, State.afterCheck_ok]

theorem ok_bind {ε α β : Type} (a : α) (f : α → Except ε β) : (Except.ok a >>= f) = f a := rfl

theorem error_bind {ε α β : Type} (x : ε) (f : α → Except ε β) : (Except.error x >>= f) = .error x := rfl

theorem needState_ok {p : Prop} [Decidable p] (code : Byte) (h : p) : needState (decide p) code = .ok () := by
  simp [needState, h]

theorem needState_error {p : Prop} [Decidable p] (code : Byte) (h : ¬ p) :
    needState (decide p) code = .error (.state, code) := by
  simp [needState, h]

/-- What the checks of SET_TAP make of fields that are in range (R37). -/
theorem State.checkSetTap_code (s : State) (t : TapNo) (rate : Rate) (point : StampPoint) :
    s.checkSetTap (BitVec.ofNat 8 t.val) rate.code point.code =
      if (s.tap t).state = .off then .ok (t, rate, point) else .error (.state, (s.tap t).state.code) := by
  rw [State.checkSetTap, indexOf_ofNat t (by decide), Rate.ofCode_code, StampPoint.ofCode_code]
  split
  · next h => simp only [needField_some, ok_bind, needState_ok _ h]; rfl
  · next h => simp only [needField_some, ok_bind, error_bind, needState_error _ h]

/-- What the checks of SET_TRUNK make of fields that are in range (R111). -/
theorem State.checkSetTrunk_code (s : State) (rate : Rate) (point : StampPoint) :
    s.checkSetTrunk rate.code point.code =
      if s.trunk.state = .detached then .ok (rate, point) else .error (.state, s.trunk.state.code) := by
  rw [State.checkSetTrunk, Rate.ofCode_code, StampPoint.ofCode_code]
  split
  · next h => simp only [needField_some, ok_bind, needState_ok _ h]; rfl
  · next h => simp only [needField_some, ok_bind, error_bind, needState_error _ h]

section
variable {s : State} {r : Request} {rest : List Request} {b1 b2 b3 : Byte}

/-- SET_TAP: refused as its checks say, or exactly the tap's settings are replaced (R37). -/
theorem execSetTap_checked (hr : s.Ready r rest) (hb : r.body = [0x10#8, b1, b2, b3]) :
    (∀ x d, s.checkSetTap b1 b2 b3 = .error (x, d) → exec .setTap s = .next (s.replied r rest x d [])) ∧
      ∀ t rate point, s.checkSetTap b1 b2 b3 = .ok (t, rate, point) →
        exec .setTap s = .next (State.replied
          { s with
            ingresses := s.ingresses.set (tapIngress t)
              { s.ingress (tapIngress t) with rate := rate, stampPoint := point } }
          r rest .ok 0 [byteOf t.val, rate.code, point.code]) := by
  obtain ⟨hrefused, haccepted⟩ := State.serve_checked (act := fun r s => s.runSetTap r)
    (go := fun (t, rate, point) => State.answer
      (State.modIngress { s with engine := { s.engine with inbox := rest } } (tapIngress t)
        fun g => { g with rate := rate, stampPoint := point }) r .ok 0 [byteOf t.val, rate.code, point.code])
    hr (hb ▸ requestOf_setTap b1 b2 b3) (by simp only [State.runSetTap, hb]; rfl)
  refine ⟨fun x d hc => congrArg _ (hrefused x d hc), fun t rate point hc => ?_⟩
  exact congrArg Host.Outcome.next ((haccepted _ hc).trans (State.answer_eq _ r .ok 0 _))

/-- SET_TRUNK: refused as its checks say, or exactly the port's settings are replaced (R111). -/
theorem execSetTrunk_checked (hr : s.Ready r rest) (hb : r.body = [0x40#8, b1, b2]) :
    (∀ x d, s.checkSetTrunk b1 b2 = .error (x, d) → exec .setTrunk s = .next (s.replied r rest x d [])) ∧
      ∀ rate point, s.checkSetTrunk b1 b2 = .ok (rate, point) →
        exec .setTrunk s = .next (State.replied
          { s with
            ingresses := s.ingresses.set trunkIngress
              { s.ingress trunkIngress with rate := rate, stampPoint := point } }
          r rest .ok 0 [rate.code, point.code]) := by
  obtain ⟨hrefused, haccepted⟩ := State.serve_checked (act := fun r s => s.runSetTrunk r)
    (go := fun (rate, point) => State.answer
      (State.modIngress { s with engine := { s.engine with inbox := rest } } trunkIngress
        fun g => { g with rate := rate, stampPoint := point }) r .ok 0 [rate.code, point.code])
    hr (hb ▸ requestOf_setTrunk b1 b2) (by simp only [State.runSetTrunk, hb]; rfl)
  refine ⟨fun x d hc => congrArg _ (hrefused x d hc), fun rate point hc => ?_⟩
  exact congrArg Host.Outcome.next ((haccepted _ hc).trans (State.answer_eq _ r .ok 0 _))

/-- SET_QUOTA: refused as its checks say, or exactly the quota is replaced (R30, R31). -/
theorem execSetQuota_checked (hr : s.Ready r rest) (hb : r.body = [0x13#8, b1, b2]) :
    (∀ x d, checkSetQuota b1 b2 = .error (x, d) → exec .setQuota s = .next (s.replied r rest x d [])) ∧
      ∀ (i : IngressNo) (quota : Nat), checkSetQuota b1 b2 = .ok (i, quota) →
        exec .setQuota s = .next (State.replied
          { s with store := { s.store with quota := s.store.quota.set i quota } }
          r rest .ok 0 [byteOf i.val, byteOf quota, byteOf (s.store.use.get i)]) := by
  obtain ⟨hrefused, haccepted⟩ := State.serve_checked (act := fun r s => s.runSetQuota r)
    (check := checkSetQuota b1 b2) (go := fun (i, quota) => State.answer
      { s with
        engine := { s.engine with inbox := rest }
        store := { s.store with quota := s.store.quota.set i quota } } r .ok 0
      [byteOf i.val, byteOf quota, byteOf (s.store.use.get i)])
    hr (hb ▸ requestOf_setQuota b1 b2) (by simp only [State.runSetQuota, hb])
  refine ⟨fun x d hc => congrArg _ (hrefused x d hc), fun i quota hc => ?_⟩
  exact congrArg Host.Outcome.next ((haccepted _ hc).trans (State.answer_eq _ r .ok 0 _))

end

/-- Settles O51, request by request: the first field out of range, then the state, then the settings replaced. -/
theorem settingsReplaced : Obligations.SettingsReplaced := by
  intro s r rest b1 b2 b3 hr refused
  refine ⟨fun hb => ?_, fun hb => ?_, fun hb => ?_⟩
  · obtain ⟨hrefused, haccepted⟩ := execSetTap_checked hr hb
    refine ⟨fun h1 => hrefused _ _ ?_, fun h1 h2 => hrefused _ _ ?_, fun h1 h2 h3 => hrefused _ _ ?_,
      fun t rate point h1 h2 h3 => ?_⟩
    · rw [State.checkSetTap, indexOf_none h1]; rfl
    · rw [State.checkSetTap, indexOf_some h1, Rate.ofCode_none h2]; rfl
    · obtain ⟨rate, hrate, -⟩ := Rate.ofCode_some h2
      rw [State.checkSetTap, indexOf_some h1, hrate, StampPoint.ofCode_none h3]; rfl
    · subst h1 h2 h3
      rw [State.checkSetTap_code] at hrefused haccepted
      exact ⟨fun hs => hrefused _ _ (if_neg hs), fun hs => haccepted _ _ _ (if_pos hs)⟩
  · obtain ⟨hrefused, haccepted⟩ := execSetTrunk_checked hr hb
    refine ⟨fun h1 => hrefused _ _ ?_, fun h1 h2 => hrefused _ _ ?_, fun rate point h1 h2 => ?_⟩
    · rw [State.checkSetTrunk, Rate.ofCode_none h1]; rfl
    · obtain ⟨rate, hrate, -⟩ := Rate.ofCode_some h1
      rw [State.checkSetTrunk, hrate, StampPoint.ofCode_none h2]; rfl
    · subst h1 h2
      rw [State.checkSetTrunk_code] at hrefused haccepted
      exact ⟨fun hs => hrefused _ _ (if_neg hs), fun hs => haccepted _ _ (if_pos hs)⟩
  · obtain ⟨hrefused, haccepted⟩ := execSetQuota_checked hr hb
    refine ⟨fun h1 => hrefused _ _ ?_, fun h1 h2 => hrefused _ _ ?_, fun i h1 hmin hmax => ?_⟩
    · rw [checkSetQuota, indexOf_none h1]; rfl
    · have hout : b2.toNat < 1 ∨ 88 < b2.toNat := by
        rcases h2 with rfl | h2
        · exact .inl (by decide)
        · exact .inr h2
      rw [checkSetQuota, indexOf_some h1, numberIn_none hout]; rfl
    · subst h1
      have haccepted := haccepted i b2.toNat (by
        rw [checkSetQuota, indexOf_ofNat i (by decide), numberIn_of hmin hmax]; rfl)
      rwa [byteOf_toNat] at haccepted

/-! ## SEND -/

theorem needIdle_ok {p : Prop} [Decidable p] (h : p) : needIdle (decide p) = .ok () := by
  simp [needIdle, h]

theorem needIdle_error {p : Prop} [Decidable p] (h : ¬ p) : needIdle (decide p) = .error (.busy, 0) := by
  simp [needIdle, h]

/-- What the checks of SEND make of fields that are in range: the part's state, then the entry's (R86). -/
theorem State.checkSend_code (s : State) (e : EntryNo) (k : FrameKind) {len : Byte} (hlen : len.toNat ≤ 32) :
    s.checkSend (BitVec.ofNat 8 e.val) k.code len =
      if s.part = .run then if (s.entry e).state = .free then .ok (e, k, len.toNat) else .error (.busy, 0)
      else .error (.state, s.part.code) := by
  rw [State.checkSend, indexOf_ofNat e (by decide), FrameKind.ofCode_code, numberIn_of (Nat.zero_le _) hlen]
  simp only [needField_some, ok_bind]
  by_cases hrun : s.part = .run
  · by_cases hfree : (s.entry e).state = .free
    · simp only [needState_ok _ hrun, needIdle_ok hfree, ok_bind, if_pos hrun, if_pos hfree]; rfl
    · simp only [needState_ok _ hrun, needIdle_error hfree, ok_bind, error_bind, if_pos hrun, if_neg hfree]
  · simp only [needState_error _ hrun, error_bind, if_neg hrun]

/-- SEND: refused as its checks say, or the frame goes into the front free slot (R86, R27). -/
theorem execSend_checked {s : State} {r : Request} {rest : List Request} {b1 t2 t1 t0 kind len : Byte} {payload : List Byte}
    (hr : s.Ready r rest) (hb : r.body = 0x34#8 :: b1 :: t2 :: t1 :: t0 :: kind :: len :: payload)
    (hpayload : payload.length = sendPayloadSize kind len) :
    (∀ x d, s.checkSend b1 kind len = .error (x, d) → exec .send s = .next (s.replied r rest x d [])) ∧
      ∀ e k length n behind, s.checkSend b1 kind len = .ok (e, k, length) → s.store.freeList = n :: behind →
        exec .send s = .next
          ((s.placeHostFrame e n behind ⟨tagOf t2 t1 t0, k, length, payload⟩).replied r rest .ok 0
            (byteOf e.val :: bytes32 s.stamp)) := by
  have htake := State.takeRequest_ready hr
  rw [hb, requestOf_send b1 t2 t1 t0 kind len payload hpayload] at htake
  have hcheck (x) : State.checkSend { s with engine := x } b1 kind len = s.checkSend b1 kind len := rfl
  refine ⟨fun x d hc => ?_, fun e k length n behind hc hn => ?_⟩
  · simp only [exec, execSend, htake, State.runSend, hb, hcheck, hc, State.refuse_eq]
    rfl
  · simp only [exec, execSend, htake, State.runSend, hb, hcheck, hc, State.sendFrame, hn, State.answer_eq]
    rfl

theorem FrameKind.code_of_ofCode {b : Byte} (h : b = 0x01#8 ∨ b = 0x02#8) : ∃ k, FrameKind.ofCode b = some k := by
  rcases h with rfl | rfl
  · exact ⟨.data, rfl⟩
  · exact ⟨.query, rfl⟩

/-- Settles O58: the checks in order, and the frame placed by `State.placeHostFrame`. -/
theorem sendPlacesFrame : Obligations.SendPlacesFrame := by
  intro s r rest b1 t2 t1 t0 kind len payload hr hb hpayload
  obtain ⟨hrefused, haccepted⟩ := execSend_checked hr hb hpayload
  refine ⟨fun h1 => hrefused _ _ ?_, fun h1 h2 h3 => hrefused _ _ ?_, fun h1 h2 h3 => hrefused _ _ ?_,
    fun e k h1 h2 h3 => ?_⟩
  · rw [State.checkSend, indexOf_none h1]; rfl
  · have hkind : FrameKind.ofCode kind = none := by simp [FrameKind.ofCode, h2, h3]
    rw [State.checkSend, indexOf_some h1, hkind]; rfl
  · obtain ⟨k, hkind⟩ := FrameKind.code_of_ofCode h2
    rw [State.checkSend, indexOf_some h1, hkind, numberIn_none (.inr h3)]; rfl
  · subst h1 h2
    rw [s.checkSend_code e k h3] at hrefused haccepted
    refine ⟨fun hpart => hrefused _ _ (if_neg hpart), fun hpart hbusy => hrefused _ _ ?_,
      fun n behind hpart hfree hn => haccepted e k len.toNat n behind ?_ hn⟩
    · rw [if_pos hpart, if_neg hbusy]
    · rw [if_pos hpart, if_pos hfree]

/-! ## Power-on -/

theorem initialFreeList_eq : initialFreeList = List.finRange 96 := by decide

theorem strapRate_eq (br1 br0 : Bool) :
    strapRate br1 br0 =
      if br1 then (if br0 then .bit2000000 else .bit921600) else if br0 then .bit460800 else .bit115200 := by
  cases br1 <;> cases br0 <;> rfl

theorem get_replicate {α : Type} {n : Nat} (x : α) (i : Fin n) : (Vector.replicate n x).get i = x := by
  simp [Vector.get]

/-- Settles O13, field by field. -/
theorem powerResetGivesPowerOnValues : Obligations.PowerResetGivesPowerOnValues := by
  intro br1 br0 s
  have hslot : ∀ n : SlotNo, Store.initial.slot n = .free := fun n => get_replicate _ n
  have hingress : ∀ i : IngressNo, State.reset.ingress i = .initial := fun i => get_replicate _ i
  refine ⟨_, rfl, rfl, rfl, rfl, initialFreeList_eq, hslot, fun i => ?_, fun k => get_replicate _ k, rfl, rfl,
    fun e => get_replicate _ e, rfl, rfl, rfl, ?_, rfl⟩
  · refine ⟨get_replicate _ i, get_replicate _ i, ?_⟩
    have htable (k : WindowNo) : Table.initial.windows.get k = .cleared := get_replicate _ k
    have hi : State.ingress { State.reset with line := .initial (strapRate br1 br0), pending := s.pending } i = .initial :=
      hingress i
    simp only [hi]
    exact ⟨rfl, rfl, rfl, rfl, rfl, rfl, rfl, rfl, htable⟩
  · rw [← strapRate_eq]; rfl

end Sys2Proof.Machine
end

section
/-! SUPPORT. The laws of the frame store (R14 to R19) as one relation between the store, the queues, the host entries and the
slots of the frames in progress, and the rule of each store operation over it. -/

namespace Sys2Proof.Machine

/-! ## Counting over a vector -/

/-- A write changes a count by what stood at its place and what stands there now. -/
theorem countP_set {α : Type} {n : Nat} (p : α → Bool) (v : Vector α n) (i : Fin n) (x : α) :
    (v.set i x).toList.countP p + (p (v.get i)).toNat = v.toList.countP p + (p x).toNat := by
  have hi : i.val < v.toList.length := by simp
  have hget : v.toList[i.val] = v.get i := by simp [Vector.get]
  have hite (b : Bool) : (if b = true then 1 else 0) = b.toNat := by cases b <;> rfl
  have hcount := List.countP_set (p := p) (a := x) hi
  have hpos : (p (v.get i)).toNat ≤ v.toList.countP p := by
    cases hold : p (v.get i) with
    | false => exact Nat.zero_le _
    | true => exact List.countP_pos_iff.mpr ⟨v.get i, hget ▸ List.getElem_mem hi, hold⟩
  rw [hget, hite, hite] at hcount
  rw [Vector.toList_set, hcount]
  omega

/-! ## The free list and the use counts -/

theorem Store.slot_set (st : Store) (n m : SlotNo) (x : Slot) :
    (st.slots.set n x).get m = if m = n then x else st.slot m := by
  split
  · next h => rw [h, get_set_same]
  · next h => exact get_set_other _ _ h

/-- The free list and the use counts are those of the slots (R17, R18). -/
structure Store.Exact (st : Store) : Prop where
  nodup : st.freeList.Nodup
  mem : ∀ n : SlotNo, n ∈ st.freeList ↔ st.slot n = .free
  use : ∀ i : IngressNo, st.use.get i = st.slots.toList.countP fun x => x.usedBy = some i

/-- A FREE slot counts in no use count. -/
theorem usedBy_free_toNat (i : IngressNo) : (decide (Slot.free.usedBy = some i)).toNat = 0 := rfl

/-- Lowering the use count of the ingress a slot stands in. -/
theorem lowerUse_get (use : Vector Nat Config.ingressCount) (o : Option IngressNo) (i : IngressNo) :
    (lowerUse use o).get i = use.get i - (decide (o = some i)).toNat := by
  cases o with
  | none => simp [lowerUse]
  | some j =>
    by_cases h : i = j
    · simp [lowerUse, h, get_set_same]
    · have h' : ¬ j = i := fun e => h e.symm
      simp [lowerUse, get_set_other _ _ h, h']

/-- A slot that is not FREE may take other content of the same ingress. -/
theorem Store.Exact.setSlot {st : Store} (h : st.Exact) {n : SlotNo} {x : Slot} (hold : st.slot n ≠ .free)
    (hnew : x ≠ .free) (huse : x.usedBy = (st.slot n).usedBy) : (st.setSlot n x).Exact where
  nodup := h.nodup
  mem m := by
    change m ∈ st.freeList ↔ (st.slots.set n x).get m = .free
    rw [Store.slot_set, h.mem]
    split
    · next e => simp [e, hold, hnew]
    · rfl
  use i := by
    have hcount := countP_set (fun x : Slot => x.usedBy = some i) st.slots n x
    rw [huse, show st.slots.get n = st.slot n from rfl] at hcount
    have := h.use i
    simp only [Store.setSlot]
    omega

/-- Freeing a slot, FREE or not (R23, R28). -/
theorem Store.Exact.free {st : Store} (h : st.Exact) (n : SlotNo) : (st.free n).Exact := by
  unfold Store.free
  split
  · exact h
  · next hold =>
    refine ⟨?_, fun m => ?_, fun i => ?_⟩
    · exact List.nodup_append.mpr ⟨h.nodup, by simp, by simpa [h.mem] using fun m hm (e : m = n) => hold (e ▸ hm)⟩
    · change m ∈ st.freeList ++ [n] ↔ (st.slots.set n .free).get m = .free
      rw [Store.slot_set, List.mem_append, h.mem]
      by_cases e : m = n <;> simp [e]
    · have hcount := countP_set (fun x : Slot => x.usedBy = some i) st.slots n .free
      rw [show st.slots.get n = st.slot n from rfl] at hcount
      have := h.use i
      simp only [usedBy_free_toNat, lowerUse_get] at hcount ⊢
      omega

/-- Taking the front free slot for content that counts in the use counts as given (R21, R27). -/
theorem Store.Exact.take {st : Store} (h : st.Exact) {n : SlotNo} {rest : List SlotNo} {x : Slot}
    {use : Vector Nat Config.ingressCount} (hn : st.freeList = n :: rest) (hx : x ≠ .free)
    (huse : ∀ i, use.get i = st.use.get i + (decide (x.usedBy = some i)).toNat) :
    Store.Exact { st with slots := st.slots.set n x, freeList := rest, use := use } := by
  have hnodup := h.nodup
  rw [hn, List.nodup_cons] at hnodup
  have hfree : st.slot n = .free := (h.mem n).mp (by simp [hn])
  refine ⟨hnodup.2, fun m => ?_, fun i => ?_⟩
  · change m ∈ rest ↔ (st.slots.set n x).get m = .free
    have hm := h.mem m
    rw [hn, List.mem_cons] at hm
    rw [Store.slot_set]
    split
    · next e => simpa [e, hx] using hnodup.1
    · next e => simpa [e] using hm
  · have hcount := countP_set (fun x : Slot => x.usedBy = some i) st.slots n x
    rw [show st.slots.get n = st.slot n from rfl, hfree] at hcount
    have := h.use i
    have := huse i
    simp only [usedBy_free_toNat] at hcount ⊢
    omega

/-! ## A holder that leaves -/

/-- What a slot is once a holder has left it (R28). -/
def Slot.leave (x : Slot) (h : Holder) : Slot :=
  match x with
  | .held source record holders =>
    if (holders.without h).isEmpty then .free else .held source record (holders.without h)
  | .filling i => .filling i
  | .free => .free

theorem Store.slot_free (st : Store) (n m : SlotNo) : (st.free n).slot m = if m = n then .free else st.slot m := by
  unfold Store.free
  split
  · next h => split <;> simp_all
  · exact Store.slot_set st n m .free

theorem Store.slot_leave (st : Store) (h : Holder) (n m : SlotNo) :
    (st.leave h n).slot m = if m = n then (st.slot n).leave h else st.slot m := by
  unfold Store.leave Slot.leave
  cases hs : st.slot n with
  | held source record holders =>
    by_cases he : (holders.without h).isEmpty = true
    · simp [he, Store.slot_free]
    · simp only [he]
      exact Store.slot_set st n m _
  | filling i => split <;> simp_all
  | free => split <;> simp_all

theorem Store.Exact.leave {st : Store} (he : st.Exact) (h : Holder) (n : SlotNo) : (st.leave h n).Exact := by
  unfold Store.leave
  split
  · next source record holders hs =>
    split
    · exact he.free n
    · exact he.setSlot (by simp [hs]) (by simp) (by cases source <;> simp [hs, Slot.usedBy])
  · exact he

theorem Store.free_freeCount (st : Store) (n : SlotNo) : st.freeList.length ≤ (st.free n).freeList.length := by
  unfold Store.free
  split <;> simp

theorem Store.leave_freeCount (st : Store) (h : Holder) (n : SlotNo) :
    st.freeList.length ≤ (st.leave h n).freeList.length := by
  unfold Store.leave
  split
  · split
    · exact st.free_freeCount n
    · exact Nat.le_refl _
  · exact Nat.le_refl _

theorem Slot.leave_holders (x : Slot) (h : Holder) : (x.leave h).holders = x.holders.without h := by
  cases x with
  | held source record holders =>
    simp only [Slot.leave]
    split
    · next he => exact ((Holders.isEmpty_iff _).mp he).symm
    · rfl
  | filling i => cases h <;> rfl
  | free => cases h <;> rfl

theorem Slot.leave_eq_filling (x : Slot) (h : Holder) (i : IngressNo) : x.leave h = .filling i ↔ x = .filling i := by
  cases x with
  | held source record holders =>
    simp only [Slot.leave]
    split <;> simp
  | filling j => simp [Slot.leave]
  | free => simp [Slot.leave]

theorem Slot.leave_complete {x : Slot} (hx : x.complete = true) (h : Holder) : (x.leave h).complete = true := by
  cases x with
  | held source record holders =>
    simp only [Slot.leave]
    split
    · rfl
    · next he =>
      have hrelay : holders.relay = false → (holders.without h).relay = false := by cases h <;> simp [Holders.without]
      cases source with
      | ingress i =>
        simp only [Slot.complete, Bool.and_eq_true, Bool.not_eq_true', Bool.and_eq_false_iff] at hx ⊢
        obtain ⟨⟨⟨⟨-, hvalid⟩, hseq⟩, hclass⟩, hsix⟩ := hx
        exact ⟨⟨⟨⟨by simpa using he, hvalid⟩, hseq⟩, hclass⟩, hsix.imp_right hrelay⟩
      | host =>
        simp only [Slot.complete, Bool.and_eq_true, Bool.not_eq_true'] at hx ⊢
        obtain ⟨⟨⟨-, hvalid⟩, hseq⟩, hclass⟩ := hx
        exact ⟨⟨⟨by simpa using he, hvalid⟩, hseq⟩, hclass⟩
  | filling i => rfl
  | free => rfl

/-! ## The laws of the store as a relation -/

/-- Slot `n` with content `x` fits the relay queue, the delivery queue, the host entries and the slots of the frames in progress
(R14 to R16, R22). -/
structure Slot.Placed (x : Slot) (n : SlotNo) (relay delivery : List SlotNo) (entries : Vector HostEntry Config.entryCount)
    (filling : IngressNo → Option SlotNo) : Prop where
  relay : n ∈ relay ↔ x.holders.relay = true
  delivery : n ∈ delivery ↔ x.holders.delivery = true
  entry : (∃ e : EntryNo, (entries.get e).slot = some n) ↔ x.ofHost = true
  entryHolder : x.holders.entry = true → x.ofHost = true
  hostHolders : x.ofHost = true → x.holders = { entry := true }
  complete : x.complete = true
  filling : ∀ i : IngressNo, x = .filling i ↔ filling i = some n

/-- The laws of the frame store, with the queues, the entries and the slots of the frames in progress that it serves (R14 to
R19). -/
structure Store.Fits (st : Store) (relay delivery : List SlotNo) (entries : Vector HostEntry Config.entryCount)
    (filling : IngressNo → Option SlotNo) : Prop where
  exact : st.Exact
  relayNodup : relay.Nodup
  deliveryNodup : delivery.Nodup
  single : ∀ (e e' : EntryNo) (n : SlotNo), (entries.get e).slot = some n → (entries.get e').slot = some n → e = e'
  placed : ∀ n : SlotNo, (st.slot n).Placed n relay delivery entries filling
  reserve : Config.entryCount ≤ st.freeList.length + entries.toList.countP HostEntry.holdsSlot

variable {st : Store} {relay delivery : List SlotNo} {entries : Vector HostEntry Config.entryCount}
  {filling : IngressNo → Option SlotNo}

/-- A slot that an operation leaves alone stays placed where what names it stays. -/
theorem Slot.Placed.congr {x : Slot} {n : SlotNo} {relay' delivery' : List SlotNo}
    {entries' : Vector HostEntry Config.entryCount} {filling' : IngressNo → Option SlotNo}
    (h : x.Placed n relay delivery entries filling) (hr : n ∈ relay' ↔ n ∈ relay) (hd : n ∈ delivery' ↔ n ∈ delivery)
    (he : ∀ e : EntryNo, (entries'.get e).slot = some n ↔ (entries.get e).slot = some n)
    (hf : ∀ i, filling' i = some n ↔ filling i = some n) : x.Placed n relay' delivery' entries' filling' where
  relay := hr.trans h.relay
  delivery := hd.trans h.delivery
  entry := (exists_congr he).trans h.entry
  entryHolder := h.entryHolder
  hostHolders := h.hostHolders
  complete := h.complete
  filling i := (h.filling i).trans (hf i).symm

/-- The order of a queue does not matter. -/
theorem Store.Fits.perm {relay' delivery' : List SlotNo} (h : st.Fits relay delivery entries filling)
    (hr : relay.Perm relay') (hd : delivery.Perm delivery') : st.Fits relay' delivery' entries filling where
  exact := h.exact
  relayNodup := hr.nodup_iff.mp h.relayNodup
  deliveryNodup := hd.nodup_iff.mp h.deliveryNodup
  single := h.single
  placed n := (h.placed n).congr hr.symm.mem_iff hd.symm.mem_iff (fun _ => Iff.rfl) fun _ => Iff.rfl
  reserve := h.reserve

/-- A slot FREE is named by nothing. -/
theorem Store.Fits.free_unnamed (h : st.Fits relay delivery entries filling) {n : SlotNo} (hn : st.slot n = .free) :
    n ∉ relay ∧ n ∉ delivery ∧ (∀ e : EntryNo, (entries.get e).slot ≠ some n) ∧ ∀ i, filling i ≠ some n := by
  have hp := h.placed n
  rw [hn] at hp
  refine ⟨fun hm => ?_, fun hm => ?_, fun e he => ?_, fun i hi => ?_⟩
  · simpa [Slot.holders] using hp.relay.mp hm
  · simpa [Slot.holders] using hp.delivery.mp hm
  · simpa [Slot.ofHost] using hp.entry.mp ⟨e, he⟩
  · simpa using (hp.filling i).mpr hi

/-- So is a slot FILLING, but for its frame in progress. -/
theorem Store.Fits.filling_unnamed (h : st.Fits relay delivery entries filling) {n : SlotNo} {i : IngressNo}
    (hn : filling i = some n) :
    st.slot n = .filling i ∧ n ∉ relay ∧ n ∉ delivery ∧ (∀ e : EntryNo, (entries.get e).slot ≠ some n) ∧
      ∀ j, filling j = some n → j = i := by
  have hp := h.placed n
  have hs := (hp.filling i).mpr hn
  rw [hs] at hp
  refine ⟨hs, fun hm => ?_, fun hm => ?_, fun e he => ?_, fun j hj => ?_⟩
  · simpa [Slot.holders] using hp.relay.mp hm
  · simpa [Slot.holders] using hp.delivery.mp hm
  · simpa [Slot.ofHost] using hp.entry.mp ⟨e, he⟩
  · simpa [eq_comm] using (hp.filling j).mpr hj

/-! ## The rule of each operation -/

/-- The front free slot is granted to a frame in progress, which leaves the reserve need (R20, R21). -/
theorem Store.Fits.grant (h : st.Fits relay delivery entries filling) {n : SlotNo} {rest : List SlotNo} {i : IngressNo}
    (hn : st.freeList = n :: rest) (hi : filling i = none)
    (hreserve : Config.entryCount < st.freeList.length + entries.toList.countP HostEntry.holdsSlot) :
    Store.Fits { st with
        slots := st.slots.set n (.filling i), freeList := rest, use := st.use.set i (st.use.get i + 1) }
      relay delivery entries (Function.update filling i (some n)) := by
  have hfree : st.slot n = .free := (h.exact.mem n).mp (by simp [hn])
  obtain ⟨hr, hd, he, hf⟩ := h.free_unnamed hfree
  refine ⟨h.exact.take hn (by simp) fun j => ?_, h.relayNodup, h.deliveryNodup, h.single, fun m => ?_, ?_⟩
  · by_cases e : j = i
    · simp [e, get_set_same, Slot.usedBy]
    · have e' : ¬ i = j := fun x => e x.symm
      simp [get_set_other _ _ e, Slot.usedBy, e']
  · change ((st.slots.set n (.filling i)).get m).Placed _ _ _ _ _
    rw [Store.slot_set]
    split
    · next e =>
      subst e
      refine ⟨by simp [hr, Slot.holders], by simp [hd, Slot.holders], by simp [he, Slot.ofHost],
        by simp [Slot.holders], by simp [Slot.ofHost], rfl, fun j => ?_⟩
      by_cases e : j = i
      · simp [e]
      · have e' : ¬ i = j := fun x => e x.symm
        simp [Function.update_of_ne e, e', hf j]
    · next e =>
      refine (h.placed m).congr Iff.rfl Iff.rfl (fun _ => Iff.rfl) fun j => ?_
      by_cases e' : j = i
      · have : ¬ n = m := fun x => e x.symm
        simp [e', hi, this]
      · simp [Function.update_of_ne e']
  · simp only [hn, List.length_cons] at hreserve ⊢
    omega

/-- The front free slot is taken for a host entry's frame (R27). -/
theorem Store.Fits.place (h : st.Fits relay delivery entries filling) {n : SlotNo} {rest : List SlotNo} {e : EntryNo}
    {record : SlotRecord} {x : HostEntry} (hn : st.freeList = n :: rest) (hold : (entries.get e).holdsSlot = false)
    (hslot : (entries.get e).slot = none) (hx : x.slot = some n) (hholds : x.holdsSlot = true)
    (hcomplete : (Slot.held .host record { entry := true }).complete = true) :
    Store.Fits { st with slots := st.slots.set n (.held .host record { entry := true }), freeList := rest }
      relay delivery (entries.set e x) filling := by
  have hfree : st.slot n = .free := (h.exact.mem n).mp (by simp [hn])
  obtain ⟨hr, hd, he, hf⟩ := h.free_unnamed hfree
  have hentry (k : EntryNo) : ((entries.set e x).get k).slot = if k = e then some n else (entries.get k).slot := by
    split
    · next hk => rw [hk, get_set_same, hx]
    · next hk => rw [get_set_other _ _ hk]
  refine ⟨h.exact.take hn (by simp) (by simp [Slot.usedBy]), h.relayNodup, h.deliveryNodup, fun a b m ha hb => ?_,
    fun m => ?_, ?_⟩
  · rw [hentry] at ha hb
    split at ha <;> split at hb
    · next h1 h2 => rw [h1, h2]
    · next h1 h2 => exact absurd (ha ▸ hb) (he b)
    · next h1 h2 => exact absurd (hb ▸ ha) (he a)
    · exact h.single a b m ha hb
  · change ((st.slots.set n _).get m).Placed _ _ _ _ _
    rw [Store.slot_set]
    split
    · next hm =>
      subst hm
      refine ⟨by simp [hr, Slot.holders], by simp [hd, Slot.holders], ?_, by simp [Slot.ofHost], by simp [Slot.holders],
        hcomplete, fun i => by simp [hf i]⟩
      exact ⟨fun _ => rfl, fun _ => ⟨e, by rw [get_set_same, hx]⟩⟩
    · next hm =>
      refine (h.placed m).congr Iff.rfl Iff.rfl (fun k => ?_) fun _ => Iff.rfl
      rw [hentry]
      split
      · next hk =>
        have : ¬ n = m := fun h => hm h.symm
        simp [hk, hslot, this]
      · exact Iff.rfl
  · have hcount := countP_set HostEntry.holdsSlot entries e x
    have := h.reserve
    simp only [hold, hholds, hn, List.length_cons, Bool.toNat_true, Bool.toNat_false] at hcount this ⊢
    omega

/-- The slot of a frame in progress is freed (R23). -/
theorem Store.Fits.free (h : st.Fits relay delivery entries filling) {n : SlotNo} {i : IngressNo}
    (hn : filling i = some n) :
    (st.free n).Fits relay delivery entries (Function.update filling i none) := by
  obtain ⟨-, hr, hd, he, hf⟩ := h.filling_unnamed hn
  refine ⟨h.exact.free n, h.relayNodup, h.deliveryNodup, h.single, fun m => ?_, ?_⟩
  · rw [Store.slot_free]
    split
    · next hm =>
      subst hm
      refine ⟨by simp [hr, Slot.holders], by simp [hd, Slot.holders], by simp [he, Slot.ofHost], by simp [Slot.holders],
        by simp [Slot.ofHost], rfl, fun j => ?_⟩
      by_cases hj : j = i
      · simp [hj]
      · simpa [Function.update_of_ne hj] using fun hm => hj (hf j hm)
    · next hm =>
      refine (h.placed m).congr Iff.rfl Iff.rfl (fun _ => Iff.rfl) fun j => ?_
      by_cases hj : j = i
      · have : ¬ n = m := fun h => hm h.symm
        simp [hj, hn, this]
      · simp [Function.update_of_ne hj]
  · have := st.free_freeCount n
    have := h.reserve
    omega

/-- A queue with slot `n` put behind it or not. -/
theorem mem_offered {queue : List SlotNo} {n m : SlotNo} {b : Bool} (hm : m ≠ n) :
    m ∈ (if b then queue ++ [n] else queue) ↔ m ∈ queue := by
  cases b <;> simp [hm]

theorem nodup_offered {queue : List SlotNo} {n : SlotNo} {b : Bool} (h : queue.Nodup) (hn : n ∉ queue) :
    (if b then queue ++ [n] else queue).Nodup := by
  cases b with
  | false => exact h
  | true => exact List.nodup_append.mpr ⟨h, by simp, by simpa using fun m hm (e : m = n) => hn (e ▸ hm)⟩

/-- The slot of a frame in progress is settled: HELD by the queues that took it, FREE with none (R26). -/
theorem Store.Fits.settle (h : st.Fits relay delivery entries filling) {n : SlotNo} {i : IngressNo} {record : SlotRecord}
    {relayed delivered : Bool} (hn : filling i = some n)
    (hcomplete : ({ relay := relayed, delivery := delivered } : Holders).isEmpty = false →
      (Slot.held (.ingress i) record { relay := relayed, delivery := delivered }).complete = true) :
    (st.settle i n record { relay := relayed, delivery := delivered }).Fits (if relayed then relay ++ [n] else relay)
      (if delivered then delivery ++ [n] else delivery) entries (Function.update filling i none) := by
  unfold Store.settle
  split
  · next hempty =>
    obtain ⟨rfl, rfl⟩ : relayed = false ∧ delivered = false := by
      cases relayed <;> cases delivered <;> simp [Holders.isEmpty] at hempty ⊢
    simpa using h.free hn
  · next hsome =>
    obtain ⟨hs, hr, hd, he, hf⟩ := h.filling_unnamed hn
    refine ⟨h.exact.setSlot (by simp [hs]) (by simp) (by simp [hs, Slot.usedBy]), nodup_offered h.relayNodup hr,
      nodup_offered h.deliveryNodup hd, h.single, fun m => ?_, h.reserve⟩
    change ((st.slots.set n _).get m).Placed _ _ _ _ _
    rw [Store.slot_set]
    split
    · next hm =>
      subst hm
      refine ⟨by cases relayed <;> simp [hr, Slot.holders], by cases delivered <;> simp [hd, Slot.holders],
        by simp [he, Slot.ofHost], by simp [Slot.holders], by simp [Slot.ofHost], hcomplete (by simpa using hsome),
        fun j => ?_⟩
      by_cases hj : j = i
      · simp [hj]
      · simpa [Function.update_of_ne hj] using fun hm => hj (hf j hm)
    · next hm =>
      refine (h.placed m).congr (mem_offered hm) (mem_offered hm) (fun _ => Iff.rfl) fun j => ?_
      by_cases hj : j = i
      · have : ¬ n = m := fun h => hm h.symm
        simp [hj, hn, this]
      · simp [Function.update_of_ne hj]

/-- A slot that holds a host entry's frame has no other holder, so no queue names it (R16). -/
theorem Slot.Placed.ofHost_false {x : Slot} {n : SlotNo} (h : x.Placed n relay delivery entries filling)
    (hn : n ∈ relay ∨ n ∈ delivery) : x.ofHost = false := by
  refine Bool.eq_false_iff.mpr fun hx => ?_
  rcases hn with hn | hn
  · simpa [h.hostHolders hx] using h.relay.mp hn
  · simpa [h.hostHolders hx] using h.delivery.mp hn

theorem Slot.leave_ofHost_false {x : Slot} (h : Holder) (hx : x.ofHost = false) : (x.leave h).ofHost = false := by
  cases x with
  | held source record holders =>
    simp only [Slot.leave]
    split
    · rfl
    · cases source <;> simp_all [Slot.ofHost]
  | filling i => rfl
  | free => rfl

/-- A queue that names a slot leaves it: what both queues have in common (R28). -/
theorem Store.Fits.leave_queue {relay' delivery' : List SlotNo} (h : st.Fits relay delivery entries filling) {n : SlotNo}
    (holder : Holder) (hn : n ∈ relay ∨ n ∈ delivery) (hrn : relay'.Nodup) (hdn : delivery'.Nodup)
    (hr : ∀ m ≠ n, m ∈ relay' ↔ m ∈ relay) (hd : ∀ m ≠ n, m ∈ delivery' ↔ m ∈ delivery)
    (hr' : n ∈ relay' ↔ ((st.slot n).holders.without holder).relay = true)
    (hd' : n ∈ delivery' ↔ ((st.slot n).holders.without holder).delivery = true)
    (he' : ((st.slot n).holders.without holder).entry = (st.slot n).holders.entry) :
    (st.leave holder n).Fits relay' delivery' entries filling := by
  have hp := h.placed n
  have hx := hp.ofHost_false hn
  have hleft := Slot.leave_ofHost_false holder hx
  refine ⟨h.exact.leave holder n, hrn, hdn, h.single, fun m => ?_, ?_⟩
  · rw [Store.slot_leave]
    split
    · next hm =>
      subst hm
      refine ⟨by rw [Slot.leave_holders, hr'], by rw [Slot.leave_holders, hd'], by rw [hleft, hp.entry, hx], fun hentry => ?_,
        by simp [hleft], Slot.leave_complete hp.complete holder, fun i => ?_⟩
      · rw [Slot.leave_holders, he'] at hentry
        simp [hp.entryHolder hentry] at hx
      · rw [Slot.leave_eq_filling, hp.filling]
    · next hm => exact (h.placed m).congr (hr m hm) (hd m hm) (fun _ => Iff.rfl) fun _ => Iff.rfl
  · have := st.leave_freeCount holder n
    have := h.reserve
    omega

/-- The front of the relay queue leaves its slot (R28, R95). -/
theorem Store.Fits.leave_relay {n : SlotNo} (h : st.Fits (n :: relay) delivery entries filling) :
    (st.leave .relay n).Fits relay delivery entries filling := by
  obtain ⟨hn, hrelay⟩ := List.nodup_cons.mp h.relayNodup
  exact h.leave_queue .relay (.inl (by simp)) hrelay h.deliveryNodup (fun m hm => by simp [hm]) (fun _ _ => Iff.rfl)
    (by simp [hn, Holders.without]) (h.placed n).delivery rfl

/-- The front of the delivery queue leaves its slot (R28, R169). -/
theorem Store.Fits.leave_delivery {n : SlotNo} (h : st.Fits relay (n :: delivery) entries filling) :
    (st.leave .delivery n).Fits relay delivery entries filling := by
  obtain ⟨hn, hdelivery⟩ := List.nodup_cons.mp h.deliveryNodup
  exact h.leave_queue .delivery (.inr (by simp)) h.relayNodup hdelivery (fun _ _ => Iff.rfl) (fun m hm => by simp [hm])
    (h.placed n).relay (by simp [hn, Holders.without]) rfl

theorem Store.Fits.leaveAll_relay {ns : List SlotNo} (h : st.Fits (ns ++ relay) delivery entries filling) :
    (st.leaveAll .relay ns).Fits relay delivery entries filling := by
  induction ns generalizing st with
  | nil => exact h
  | cons n ns ih => exact ih h.leave_relay

theorem Store.Fits.leaveAll_delivery {ns : List SlotNo} (h : st.Fits relay (ns ++ delivery) entries filling) :
    (st.leaveAll .delivery ns).Fits relay delivery entries filling := by
  induction ns generalizing st with
  | nil => exact h
  | cons n ns ih => exact ih h.leave_delivery

/-- A host entry gives up its slot, which is freed: it had no other holder (R28, R88). -/
theorem Store.Fits.leave_entry (h : st.Fits relay delivery entries filling) {e : EntryNo} {n : SlotNo} {x : HostEntry}
    (hn : (entries.get e).slot = some n) (hx : x.slot = none) (hholds : x.holdsSlot = false) :
    (st.leave .entry n).Fits relay delivery (entries.set e x) filling := by
  have hp := h.placed n
  have hhost := hp.entry.mp ⟨e, hn⟩
  have hholders := hp.hostHolders hhost
  obtain ⟨record, hs⟩ : ∃ record, st.slot n = .held .host record { entry := true } := by
    cases hs : st.slot n with
    | held source record holders => cases source <;> simp_all [Slot.ofHost, Slot.holders]
    | filling i => simp [hs, Slot.ofHost] at hhost
    | free => simp [hs, Slot.ofHost] at hhost
  have hleave : st.leave .entry n = st.free n := Store.leave_last hs rfl
  have hentry (k : EntryNo) : ((entries.set e x).get k).slot = if k = e then none else (entries.get k).slot := by
    split
    · next hk => rw [hk, get_set_same, hx]
    · next hk => rw [get_set_other _ _ hk]
  rw [hleave]
  rw [hs] at hp
  refine ⟨h.exact.free n, h.relayNodup, h.deliveryNodup, fun a b m ha hb => ?_, fun m => ?_, ?_⟩
  · rw [hentry] at ha hb
    split at ha
    · simp at ha
    · split at hb
      · simp at hb
      · exact h.single a b m ha hb
  · rw [Store.slot_free]
    split
    · next hm =>
      subst hm
      refine ⟨by simpa [Slot.holders] using hp.relay, by simpa [Slot.holders] using hp.delivery, ?_, by simp [Slot.holders],
        by simp [Slot.ofHost], rfl, fun i => by simpa using hp.filling i⟩
      simp only [Slot.ofHost, Bool.false_eq_true, iff_false, not_exists, hentry]
      intro k hk
      split at hk
      · simp at hk
      · next hne => exact hne (h.single k e m hk hn)
    · next hm =>
      refine (h.placed m).congr Iff.rfl Iff.rfl (fun k => ?_) fun _ => Iff.rfl
      rw [hentry]
      split
      · next hk =>
        have : ¬ n = m := fun h => hm h.symm
        simp [hk, hn, this]
      · exact Iff.rfl
  · have hcount := countP_set HostEntry.holdsSlot entries e x
    have hfree : (st.free n).freeList.length = st.freeList.length + 1 := by simp [Store.free, hs]
    have := h.reserve
    have := Bool.toNat_le ((entries.get e).holdsSlot)
    rw [hholds] at hcount
    simp only [Bool.toNat_false] at hcount
    omega

/-- A host entry's record may change while its slot stays. -/
theorem Store.Fits.entry (h : st.Fits relay delivery entries filling) {e : EntryNo} {x : HostEntry}
    (hx : x.slot = (entries.get e).slot) (hholds : x.holdsSlot = (entries.get e).holdsSlot) :
    st.Fits relay delivery (entries.set e x) filling := by
  have hentry (k : EntryNo) : ((entries.set e x).get k).slot = (entries.get k).slot := by
    by_cases hk : k = e
    · rw [hk, get_set_same, hx]
    · rw [get_set_other _ _ hk]
  refine ⟨h.exact, h.relayNodup, h.deliveryNodup, fun a b m ha hb => ?_, fun m => ?_, ?_⟩
  · rw [hentry] at ha hb
    exact h.single a b m ha hb
  · exact (h.placed m).congr Iff.rfl Iff.rfl (fun k => by rw [hentry]) fun _ => Iff.rfl
  · have hcount := countP_set HostEntry.holdsSlot entries e x
    have := h.reserve
    rw [hholds] at hcount
    omega

end Sys2Proof.Machine
end

section
/-! SUPPORT. The laws of a state of the part, told apart by what they rest on: those over the store, the queues, the entries and the
host line on the one hand, and those over the taps, the trunk port and the controller on the other. The two meet in four things the
second group knows, which a view gives: the slots being filled, the attempt in flight, what is waited for, and whether the part is
idle. An operation in the middle of a command keeps the first group while the view already is that of the command's end. -/

namespace Sys2Proof.Machine

/-! ## The view of the receivers, the trunk port and the controller -/

/-- What the taps, the trunk port and the controller know of the store, the entries and the requests. -/
structure View where
  /-- The slot of the frame in progress at each ingress. -/
  filling : IngressNo → Option SlotNo
  /-- The candidate whose attempt is in flight. -/
  flight : Option Candidate
  /-- What a parked request waits for. -/
  waits : ParkedSubject → Prop
  /-- The part is in BOOTING or CONFIG. -/
  idle : Prop

/-- Whether what a parked request waits for is outstanding (R155). -/
def State.awaits (s : State) : ParkedSubject → Prop
  | .closeTap t => (s.tap t).parkedClose = true
  | .detach => s.trunk.parkedDetach = true
  | .stop => s.stop.isSome = true

/-- The slot of the frame in progress at an ingress, if it was granted one. -/
def State.fillingSlot (s : State) (i : IngressNo) : Option SlotNo := (s.inProgressAt i).bind InProgress.slotNo

/-- The view of a state's own taps, trunk port and controller. -/
def State.view (s : State) : View where
  filling := s.fillingSlot
  flight := s.trunk.inFlight
  waits := s.awaits
  idle := s.part = .booting ∨ s.part = .config

/-! ## The laws that rest on the store, the queues, the entries and the host line -/

/-- The laws of the frame store, with the slots of the frames in progress as given. -/
abbrev State.StoreFits (s : State) (filling : IngressNo → Option SlotNo) : Prop :=
  s.store.Fits s.relay.queue (s.delivery.queue.map DeliveryEntry.slot) s.entries filling

/-- The law of the attempt in flight over the entries and the relay block, with the candidate as given (R83, R87, R91, R101). -/
structure FlightFits (entries : Vector HostEntry Config.entryCount) (relay : Relay) (c : Option Candidate) : Prop where
  entry : ∀ e : EntryNo, (entries.get e).state = .inFlight ↔ c = some (.entry e)
  head : c = some .relayHead → relay.queue ≠ []
  flush : relay.headRecord.flushPending = true → c = some .relayHead
  attempts : relay.headRecord.attempts ≤ 15

/-- The law of the reply queue and the parked requests, with what is waited for as given (R143, R155, R194). -/
structure RepliesFit (engine : Engine) (replies : List Reply) (waits : ParkedSubject → Prop) : Prop where
  nodup : (engine.parked.map Parked.subject).Nodup
  waiting : ∀ x, x ∈ engine.parked.map Parked.subject ↔ waits x
  bounded : replies.length + engine.parked.length ≤ 16
  overtaken : ∀ x ∈ engine.overtaken,
    x.code = 0x04#8 ∧ (engine.inbox.head?.bind fun r => requestOf r.body) = some .reset

/-- The law of the delivery queue, with whether a CAPTURE notice is on HTX as given (R164, R166, R167). -/
abbrev CapturesOrdered (queue : List DeliveryEntry) (capturing : Bool) : Prop :=
  (queue.countP fun e => e.state = .sending) = (if capturing then 1 else 0) ∧
    (∀ e ∈ queue, e.mark ≠ .none → e.state = .sending) ∧
    queue.Pairwise (fun a b =>
      (b.state = .sent → a.state = .sent) ∧ (b.state = .sending → b.mark = .none → a.state = .sent)) ∧
    (queue.countP fun e => e.state = .sending || e.state = .sent) ≤ 16

/-- In an idle part nothing waits for transmission (R182). -/
def State.Quiet (s : State) : Prop := s.relay.queue = [] ∧ ∀ e : EntryNo, (s.entry e).holdsSlot = false

/-- The laws of this group but for the store's. -/
structure State.Steady (s : State) (v : View) : Prop where
  tables : s.TablesLawful
  events : s.EventNumbersConsecutive
  head : s.HeadExact
  entries : s.EntriesLawful
  flight : FlightFits s.entries s.relay v.flight
  delivery : CapturesOrdered s.delivery.queue (s.sends .capture)
  replies : RepliesFit s.engine s.line.replies v.waits
  session : s.SessionLawful
  hunter : s.line.hunter.Lawful
  quiet : v.idle → s.Quiet

/-- The laws of this group. -/
structure State.Kept (s : State) (v : View) : Prop where
  steady : s.Steady v
  store : s.StoreFits v.filling

/-- A view may be replaced by one that says the same, and an idle part may become busy. -/
theorem State.Kept.of_view {s : State} {v w : View} (h : s.Kept v) (hf : w.filling = v.filling)
    (hc : w.flight = v.flight) (hw : ∀ x, w.waits x ↔ v.waits x) (hi : w.idle → v.idle) : s.Kept w where
  steady :=
    { h.steady with
      flight := hc ▸ h.steady.flight
      replies := { h.steady.replies with waiting := fun x => (h.steady.replies.waiting x).trans (hw x).symm }
      quiet := fun hi' => h.steady.quiet (hi hi') }
  store := hf ▸ h.store

/-! ## The laws that rest on the taps, the trunk port and the controller -/

/-- The laws of the taps, the trunk port and the controller. -/
structure State.Ruled (s : State) : Prop where
  health : s.HealthJudged
  trunk : s.TrunkLawful
  taps : s.TapsLawful
  stopping : s.StopLawful
  off : s.part = .booting ∨ s.part = .config → (∀ t : TapNo, (s.tap t).state = .off) ∧ s.trunk.state = .detached

/-- The laws but for the ranges and capacities, which rest on nothing else. -/
structure State.Sound (s : State) : Prop where
  kept : s.Kept s.view
  ruled : s.Ruled

/-! ## The two groups make up the laws -/

theorem mem_allEntries (e : EntryNo) : e ∈ allEntries := by revert e; decide

/-- A slot is the slot of exactly one entry or of none, as its content says (R16). -/
theorem State.entriesAt_length_iff (s : State) (n : SlotNo) (b : Bool) :
    (s.entriesAt n).length = b.toNat ↔
      ((∃ e : EntryNo, (s.entries.get e).slot = some n) ↔ b = true) ∧
        ∀ e e' : EntryNo, (s.entries.get e).slot = some n → (s.entries.get e').slot = some n → e = e' := by
  have hmem (e : EntryNo) : e ∈ s.entriesAt n ↔ (s.entries.get e).slot = some n := by
    rw [State.entriesAt, List.mem_filter]
    exact ⟨fun h => of_decide_eq_true h.2, fun h => ⟨mem_allEntries e, decide_eq_true h⟩⟩
  have hnodup : (s.entriesAt n).Nodup := List.Nodup.filter _ (by decide)
  constructor
  · intro h
    cases b with
    | false =>
      have hnil := List.eq_nil_of_length_eq_zero h
      refine ⟨⟨fun ⟨e, he⟩ => ?_, by simp⟩, fun e e' he => ?_⟩ <;> simp [← hmem, hnil] at he
    | true =>
      obtain ⟨e, he⟩ := List.length_eq_one_iff.mp h
      refine ⟨⟨fun _ => rfl, fun _ => ⟨e, ?_⟩⟩, fun a a' ha ha' => ?_⟩
      · simp [← hmem, he]
      · simp only [← hmem, he, List.mem_singleton] at ha ha'
        rw [ha, ha']
  · rintro ⟨hex, hsingle⟩
    cases b with
    | false =>
      have hnil : s.entriesAt n = [] :=
        List.eq_nil_iff_forall_not_mem.mpr fun e he => by simpa using hex.mp ⟨e, (hmem e).mp he⟩
      rw [hnil]; rfl
    | true =>
      obtain ⟨e, he⟩ := hex.mpr rfl
      have hperm : s.entriesAt n = [e] := by
        have hall : ∀ a ∈ s.entriesAt n, a = e := fun a ha => hsingle a e ((hmem a).mp ha) he
        have hrep := List.eq_replicate_of_mem hall
        have hle := hnodup
        rw [hrep, List.nodup_replicate] at hle
        have hpos := List.length_pos_of_mem ((hmem e).mpr he)
        rw [hrep, show (s.entriesAt n).length = 1 by omega]
        rfl
      rw [hperm]; rfl

theorem State.storeConsistent_iff (s : State) : s.StoreConsistent ↔ s.StoreFits s.fillingSlot := by
  have hreserve : s.ReserveKept ↔
      Config.entryCount ≤ s.store.freeList.length + s.entries.toList.countP HostEntry.holdsSlot := by
    simp only [State.ReserveKept, State.reserveNeed, State.holdingEntries, Store.freeCount]
    omega
  constructor
  · rintro ⟨⟨hnodup, hmem⟩, huse, ⟨hrn, hdn, hq⟩, hentries, hcomplete, hfilling, hr⟩
    refine ⟨⟨hnodup, hmem, huse⟩, hrn, hdn, fun e e' n he => ?_, fun n => ?_, hreserve.mp hr⟩
    · exact ((s.entriesAt_length_iff n _).mp (hentries n).1).2 e e' he
    · obtain ⟨hlen, hholder, hhost⟩ := hentries n
      exact ⟨(hq n).1, (hq n).2, ((s.entriesAt_length_iff n _).mp hlen).1, hholder, hhost, hcomplete n, hfilling n⟩
  · intro h
    refine ⟨⟨h.exact.nodup, h.exact.mem⟩, h.exact.use, ⟨h.relayNodup, h.deliveryNodup, fun n => ?_⟩, fun n => ?_,
      fun n => (h.placed n).complete, fun n => (h.placed n).filling, hreserve.mpr h.reserve⟩
    · exact ⟨(h.placed n).relay, (h.placed n).delivery⟩
    · have hp := h.placed n
      exact ⟨(s.entriesAt_length_iff n _).mpr ⟨hp.entry, fun e e' => h.single e e' n⟩, hp.entryHolder, hp.hostHolders⟩

theorem State.Lawful.sound {s : State} (h : s.Lawful) : s.Sound := by
  obtain ⟨hnodup, hclose, hdetach, hstop, hbound, hover⟩ := h.replies
  obtain ⟨hentry, hhead, hflush, hattempts⟩ := h.flight
  refine ⟨⟨?_, (s.storeConsistent_iff).mp h.store⟩, ?_⟩
  · exact
      { tables := h.tables, events := h.events, head := h.head, entries := h.entries
        flight := ⟨hentry, hhead, hflush, hattempts⟩
        delivery := h.delivery
        replies := ⟨hnodup, fun x => by cases x <;> simp only [State.view, State.awaits, hclose, hdetach, hstop], hbound,
          hover⟩
        session := h.session, hunter := h.hunter
        quiet := fun hi => (h.config hi).2.2 }
  · exact
      { health := h.health, trunk := h.trunk, taps := h.taps, stopping := h.stopping
        off := fun hi => ⟨(h.config hi).1, (h.config hi).2.1⟩ }

theorem State.Sound.lawful {s : State} (h : s.Sound) (hs : s.SettingsInRange) (hq : s.QueuesBounded) : s.Lawful := by
  obtain ⟨⟨hk, hstore⟩, hr⟩ := h
  exact
    { tables := hk.tables, settings := hs, queues := hq, events := hk.events
      store := (s.storeConsistent_iff).mpr hstore
      head := hk.head, entries := hk.entries
      flight := ⟨hk.flight.entry, hk.flight.head, hk.flight.flush, hk.flight.attempts⟩
      health := hr.health, trunk := hr.trunk, taps := hr.taps, delivery := hk.delivery
      replies := ⟨hk.replies.nodup, fun t => hk.replies.waiting (.closeTap t), hk.replies.waiting .detach,
        hk.replies.waiting .stop, hk.replies.bounded, hk.replies.overtaken⟩
      session := hk.session, stopping := hr.stopping
      config := fun hi => ⟨(hr.off hi).1, (hr.off hi).2, hk.quiet hi⟩
      hunter := hk.hunter }

end Sys2Proof.Machine
end

section
/-! SUPPORT. What each operation on the events, the tables, the host line, the requests and the delivery queue keeps of the
laws. -/

namespace Sys2Proof.Machine

/-! ## Events and tables -/

/-- The numbers of stored records are consecutive and end just before the next number (R174). -/
abbrev EventQueue.Consecutive (q : EventQueue) : Prop :=
  q.queue.map EventRecord.number =
    (List.range q.queue.length).map fun k => q.nextNumber - BitVec.ofNat 16 (q.queue.length - k)

theorem EventQueue.Consecutive.push {q : EventQueue} (h : q.Consecutive) (info : EventInfo) (stamp : Word32) :
    (q.push info stamp).Consecutive := by
  by_cases hroom : q.queue.length < 16
  · rw [EventQueue.push_room info stamp hroom]
    simp only [EventQueue.Consecutive, List.map_append, h, List.length_append, List.length_singleton,
      List.range_succ, List.map_cons, List.map_nil]
    congr 1
    · refine List.map_congr_left fun k hk => ?_
      have hk : k < q.queue.length := List.mem_range.mp hk
      rw [show q.queue.length + 1 - k = (q.queue.length - k) + 1 by omega, BitVec.ofNat_add]
      bv_omega
    · rw [show q.queue.length + 1 - q.queue.length = 1 by omega]
      simp
  · rw [EventQueue.push_full info stamp (by omega)]
    exact h

/-- The oldest record leaves (R176). -/
theorem EventQueue.Consecutive.tail {q : EventQueue} (h : q.Consecutive) :
    EventQueue.Consecutive { q with queue := q.queue.tail } := by
  have htail := congrArg List.tail h
  cases hq : q.queue with
  | nil => simp [EventQueue.Consecutive]
  | cons e es =>
    simp only [hq, List.map_cons, List.tail_cons, List.length_cons, List.range_succ_eq_map, List.map_map] at htail
    simp only [EventQueue.Consecutive, List.tail_cons, htail]
    refine List.map_congr_left fun k _ => ?_
    simp [Function.comp]

/-- The law of both tables of an ingress (R58). -/
abbrev Ingress.TablesLawful (g : Ingress) (i : IngressNo) : Prop := g.active.Lawful i ∧ g.staged.Lawful i

theorem State.TablesLawful.set {s : State} (h : s.TablesLawful) {i : IngressNo} {g : Ingress} (hg : g.TablesLawful i) :
    State.TablesLawful { s with ingresses := s.ingresses.set i g } := by
  intro j
  change (Ingress.TablesLawful ((s.ingresses.set i g).get j) j)
  by_cases hj : j = i
  · rw [hj, get_set_same]
    exact hg
  · rw [get_set_other _ _ hj]
    exact h j

variable {s : State} {v : View}

theorem State.Steady.storeEvent (h : s.Steady v) (info : EventInfo) : (s.storeEvent info).Steady v :=
  { h with events := EventQueue.Consecutive.push h.events info s.stamp }

/-- A change of an ingress that keeps the law of its tables. -/
theorem State.Steady.modIngress (h : s.Steady v) (i : IngressNo) {f : Ingress → Ingress}
    (hf : (f (s.ingress i)).TablesLawful i) : (s.modIngress i f).Steady v :=
  { h with tables := h.tables.set hf }

theorem State.Steady.countDrop (h : s.Steady v) (i : IngressNo) (reason : DropReason) :
    (s.countDrop i reason).Steady v := by
  have hevents : EventQueue.Consecutive (s.countDrop i reason).events := by
    simp only [State.countDrop]
    split
    · exact h.events
    · exact EventQueue.Consecutive.push h.events _ _
  exact { h with tables := h.tables.set (h.tables i), events := hevents }

theorem State.Steady.countWindowDrop (h : s.Steady v) (i : IngressNo) : (s.countWindowDrop i).Steady v :=
  h.modIngress i (h.tables i)

theorem State.Kept.storeEvent (h : s.Kept v) (info : EventInfo) : (s.storeEvent info).Kept v :=
  ⟨h.steady.storeEvent info, h.store⟩

theorem State.Kept.modIngress (h : s.Kept v) (i : IngressNo) {f : Ingress → Ingress}
    (hf : (f (s.ingress i)).TablesLawful i) : (s.modIngress i f).Kept v :=
  ⟨h.steady.modIngress i hf, h.store⟩

theorem State.Kept.countDrop (h : s.Kept v) (i : IngressNo) (reason : DropReason) : (s.countDrop i reason).Kept v :=
  ⟨h.steady.countDrop i reason, h.store⟩

/-! ## Replies and parked requests -/

/-- There is room for one more reply, as there is when a request is executed (R143). -/
def State.Room (s : State) : Prop := s.line.replies.length + s.engine.parked.length < 16

theorem nodup_seq_insertCache {cache : List CacheEntry} (h : (cache.map CacheEntry.seq).Nodup) (e : CacheEntry) :
    ((insertCache cache e).map CacheEntry.seq).Nodup := by
  have hnew : ∀ l : List CacheEntry, (l.map CacheEntry.seq).Nodup → e.seq ∉ l.map CacheEntry.seq →
      ((l ++ [e]).map CacheEntry.seq).Nodup := by
    intro l hl he
    rw [List.map_append]
    exact List.nodup_append.mpr ⟨hl, by simp, by
      simpa using fun (c : CacheEntry) hc (hs : c.seq = e.seq) => he (hs ▸ List.mem_map_of_mem hc)⟩
  unfold insertCache
  split
  · refine hnew _ (h.sublist (List.filter_sublist.map _)) ?_
    simp
  · next hfresh =>
    have hfresh : ∀ c ∈ cache, c.seq ≠ e.seq := by simpa using hfresh
    split
    · refine hnew _ (h.sublist ((List.drop_sublist 1 cache).map _)) ?_
      rintro hm
      obtain ⟨c, hc, hs⟩ := List.mem_map.mp hm
      exact hfresh c (List.mem_of_mem_drop hc) hs
    · exact hnew _ h (by simpa using hfresh)

/-- The session law after a reply has been put in the cache of an OPEN session, or in none (R157). -/
theorem State.SessionLawful.produceReply (h : s.SessionLawful) (check : Word16) (r : Reply) (current : Bool) :
    (s.produceReply check r current).SessionLawful := by
  obtain ⟨hclosed, hopened, hcache⟩ := h
  unfold State.produceReply
  split
  · next hc =>
    refine ⟨fun hs => ?_, hopened, nodup_seq_insertCache hcache _⟩
    exact absurd (hc.1.symm.trans hs) (by decide)
  · exact ⟨hclosed, hopened, hcache⟩

theorem State.produceReply_parked (s : State) (c : Word16) (r : Reply) (b : Bool) :
    (s.produceReply c r b).engine.parked = s.engine.parked := by
  unfold State.produceReply; split <;> rfl

theorem State.produceReply_inbox (s : State) (c : Word16) (r : Reply) (b : Bool) :
    (s.produceReply c r b).engine.inbox = s.engine.inbox := by
  unfold State.produceReply; split <;> rfl

theorem State.produceReply_overtaken (s : State) (c : Word16) (r : Reply) (b : Bool) :
    (s.produceReply c r b).engine.overtaken = s.engine.overtaken := by
  unfold State.produceReply; split <;> rfl

theorem State.produceReply_hunter (s : State) (c : Word16) (r : Reply) (b : Bool) :
    (s.produceReply c r b).line.hunter = s.line.hunter := by
  unfold State.produceReply; split <;> rfl

theorem State.produceReply_htx (s : State) (c : Word16) (r : Reply) (b : Bool) :
    (s.produceReply c r b).line.htx = s.line.htx := by
  unfold State.produceReply; split <;> rfl

/-- What a change of the engine and of the reply queue leaves of the other laws. -/
theorem State.Kept.of_engine {engine : Engine} {line : HostLine} (h : s.Kept v) (hhunter : line.hunter = s.line.hunter)
    (hhtx : line.htx = s.line.htx) {waits : ParkedSubject → Prop} (hreplies : RepliesFit engine line.replies waits)
    (hsession : State.SessionLawful { s with engine := engine }) :
    State.Kept { s with engine := engine, line := line } { v with waits := waits } := by
  have hdelivery : CapturesOrdered s.delivery.queue (line.htx.any fun m => m.kind = .capture) := by
    rw [hhtx]
    exact h.steady.delivery
  exact ⟨{ h.steady with
    delivery := hdelivery, replies := hreplies, session := hsession, hunter := by rw [hhunter]; exact h.steady.hunter },
    h.store⟩

theorem State.produceReply_same (s : State) (c : Word16) (r : Reply) (b : Bool) :
    s.produceReply c r b =
      { s with engine := (s.produceReply c r b).engine, line := (s.produceReply c r b).line } := by
  unfold State.produceReply; split <;> rfl

theorem State.Kept.produceReply (h : s.Kept v) (hroom : s.Room) (check : Word16) (r : Reply) (current : Bool) :
    (s.produceReply check r current).Kept v := by
  rw [State.produceReply_same]
  refine h.of_engine (s.produceReply_hunter ..) (s.produceReply_htx ..) ⟨?_, ?_, ?_, ?_⟩ ?_
  · simpa only [State.produceReply_parked] using h.steady.replies.nodup
  · simpa only [State.produceReply_parked] using h.steady.replies.waiting
  · have : s.line.replies.length + s.engine.parked.length < 16 := hroom
    simp only [State.produceReply_replies, State.produceReply_parked, List.length_append, List.length_singleton]
    omega
  · simpa only [State.produceReply_overtaken, State.produceReply_inbox] using h.steady.replies.overtaken
  · have hsession := State.SessionLawful.produceReply h.steady.session check r current
    rw [State.produceReply_same] at hsession
    exact hsession

/-- Execution ends with a reply (R154). -/
theorem State.Kept.answer (h : s.Kept v) (hroom : s.Room) (r : Request) (x : Status) (d : Byte) (result : List Byte) :
    (s.answer r x d result).Kept v :=
  h.produceReply hroom r.check _ true

/-- A request is parked for something that was not waited for (R155). -/
theorem State.Kept.park (h : s.Kept v) (hroom : s.Room) (r : Request) {subject : ParkedSubject} (hnew : ¬ v.waits subject) :
    (s.park r subject).Kept { v with waits := fun x => v.waits x ∨ x = subject } := by
  have hold := h.steady.replies
  have hnotin : subject ∉ s.parkedSubjects := fun hm => hnew ((hold.waiting subject).mp hm)
  refine h.of_engine (line := s.line) rfl rfl ⟨?_, fun x => ?_, ?_, hold.overtaken⟩ h.steady.session
  · rw [List.map_append]
    exact List.nodup_append.mpr ⟨hold.nodup, by simp, by simpa using fun x hx (e : x = subject) => hnotin (e ▸ hx)⟩
  · rw [List.map_append, List.mem_append, hold.waiting, List.map_singleton, List.mem_singleton]
  · have : s.line.replies.length + s.engine.parked.length < 16 := hroom
    simp only [List.length_append, List.length_singleton]
    omega

/-- The parked request of a subject, where there is one. -/
theorem State.parked_find (s : State) (subject : ParkedSubject) :
    (∃ p, p ∈ s.engine.parked ∧ p.subject = subject ∧ s.engine.parked.find? (fun p => p.subject == subject) = some p) ∨
      subject ∉ s.parkedSubjects ∧ s.engine.parked.find? (fun p => p.subject == subject) = none := by
  cases hfind : s.engine.parked.find? (fun p => p.subject == subject) with
  | none =>
    refine .inr ⟨fun hm => ?_, rfl⟩
    obtain ⟨p, hp, he⟩ := List.mem_map.mp hm
    simpa [he] using List.find?_eq_none.mp hfind p hp
  | some p => exact .inl ⟨p, List.mem_of_find?_eq_some hfind, by simpa using List.find?_some hfind, rfl⟩

/-- A parked request completes, if one is parked (R155). -/
theorem State.Kept.answerParked (h : s.Kept v) (subject : ParkedSubject) (result : List Byte) :
    (s.answerParked subject result).Kept { v with waits := fun x => v.waits x ∧ x ≠ subject } := by
  have hold := h.steady.replies
  rcases s.parked_find subject with ⟨p, hp, hsubject, hfind⟩ | ⟨hnone, hfind⟩
  · rw [State.answerParked_some result hfind]
    have hmap : (s.engine.parked.filter fun p => p.subject != subject).map Parked.subject =
        s.parkedSubjects.filter (· != subject) := by
      simp [State.parkedSubjects, List.filter_map, Function.comp_def]
    have hless : (s.engine.parked.filter fun p => p.subject != subject).length < s.engine.parked.length :=
      List.length_filter_lt_length_iff_exists.mpr ⟨p, hp, by simp [hsubject]⟩
    have hleft : State.Kept
        { s with engine := { s.engine with parked := s.engine.parked.filter (fun p => p.subject != subject) } }
        { v with waits := fun x => v.waits x ∧ x ≠ subject } := by
      refine h.of_engine (line := s.line) rfl rfl ⟨?_, fun x => ?_, ?_, hold.overtaken⟩ h.steady.session
      · rw [hmap]
        exact hold.nodup.filter _
      · rw [hmap, List.mem_filter, hold.waiting]
        simp
      · have := hold.bounded
        simp only
        omega
    refine hleft.produceReply ?_ p.check _ _
    have := hold.bounded
    change s.line.replies.length + _ < 16
    simp only
    omega
  · rw [State.answerParked_none result hfind]
    refine h.of_view rfl rfl (fun x => ⟨And.left, fun hx => ⟨hx, fun e => hnone ?_⟩⟩) id
    exact (hold.waiting subject).mpr (e ▸ hx)

/-- A subject that nothing waits for has no parked request. -/
theorem State.Kept.waits_and_ne {subject : ParkedSubject} (h : s.Kept v) (hnot : ¬ v.waits subject) :
    s.Kept { v with waits := fun x => v.waits x ∧ x ≠ subject } :=
  h.of_view rfl rfl (fun _ => ⟨And.left, fun hx => ⟨hx, fun e => hnot (e ▸ hx)⟩⟩) id

/-! ## Taking a request -/

/-- `s` with the front request taken out of the inbox (R153). -/
abbrev State.taken (s : State) (rest : List Request) : State := { s with engine := { s.engine with inbox := rest } }

/-- A request is taken that is not the RESET that overtook a STOP (R153, R194). -/
theorem State.Kept.taken {r : Request} {rest : List Request} (h : s.Kept v) (hr : s.Ready r rest)
    (hcode : requestOf r.body ≠ some .reset) : (s.taken rest).Kept v := by
  obtain ⟨-, -, -, hinbox⟩ := hr
  have hold := h.steady.replies
  obtain ⟨hclosed, hopened, hcache⟩ := h.steady.session
  refine h.of_engine (line := s.line) rfl rfl ⟨hold.nodup, hold.waiting, hold.bounded, fun x hx => ?_⟩
    ⟨fun hs => ?_, hopened, hcache⟩
  · have hover := (hold.overtaken x hx).2
    simp [hinbox, hcode] at hover
  · obtain ⟨h1, h2, h3⟩ := hclosed hs
    exact ⟨h1, h2, fun q hq => h3 q (by simp [hinbox, hq])⟩

theorem State.Ready.room {r : Request} {rest : List Request} (h : s.Ready r rest) : (s.taken rest).Room := h.2.2.1

/-- The code of a request that is not HELLO and is read from its body. -/
theorem isHello_of_requestOf {r : Request} {k : RequestCode} (h : requestOf r.body = some k) :
    r.isHello = true ↔ k = .hello := by
  unfold requestOf at h
  cases hb : r.body with
  | nil => simp [hb] at h
  | cons b fields =>
    rw [hb] at h
    simp only at h
    cases hc : RequestCode.ofByte b with
    | none => simp [hc] at h
    | some k' =>
      have hbyte := RequestCode.byte_of_ofByte hc
      have hk : k' = k := by
        rw [hc] at h
        simp only [Option.ite_none_right_eq_some, Option.some.injEq] at h
        exact h.2
      subst hk
      have hinj : k'.byte = RequestCode.hello.byte ↔ k' = .hello := by cases k' <;> decide
      simp [Request.isHello, hb, ← hbyte, hinj]

/-- Only a HELLO is executed in a CLOSED session (R149, R151). -/
theorem State.SessionLawful.opened_of_ready {r : Request} {rest : List Request} {k : RequestCode} (h : s.SessionLawful)
    (hr : s.Ready r rest) (hk : requestOf r.body = some k) (hne : k ≠ .hello) : s.engine.session = .opened := by
  cases hs : s.engine.session with
  | opened => rfl
  | closed =>
    have hhello := (h.1 hs).2.2 r (by rw [hr.2.2.2]; simp)
    exact absurd ((isHello_of_requestOf hk).mp hhello) hne

/-! ## Arrival -/

/-- Every subject a request can be parked for. -/
def allSubjects : List ParkedSubject := allTaps.map .closeTap ++ [.detach, .stop]

theorem mem_allSubjects (x : ParkedSubject) : x ∈ allSubjects := by
  have htaps : ∀ t : TapNo, ParkedSubject.closeTap t ∈ allSubjects := by decide
  cases x with
  | closeTap t => exact htaps t
  | detach => decide
  | stop => decide

/-- At most eight requests are parked: one for each tap, one for the port, one for the controller (R155). -/
theorem RepliesFit.parked_le {engine : Engine} {replies : List Reply} {waits : ParkedSubject → Prop}
    (h : RepliesFit engine replies waits) : engine.parked.length ≤ 8 := by
  have := (h.nodup.subperm fun x _ => mem_allSubjects x).length_le
  simpa [allSubjects, allTaps] using this

theorem State.Kept.replyAtArrival (h : s.Kept v) (r : Reply) : (s.replyAtArrival r).Kept v := by
  unfold State.replyAtArrival
  split
  · next hroom =>
    have hold := h.steady.replies
    refine h.of_engine (engine := s.engine) (line := { s.line with replies := s.line.replies ++ [r] }) rfl rfl
      ⟨hold.nodup, hold.waiting, ?_, hold.overtaken⟩ h.steady.session
    have := hold.parked_le
    have : s.line.replies.length < 8 := hroom
    simp only [List.length_append, List.length_singleton]
    omega
  · exact h

/-- A request arrives (R150). -/
theorem State.Kept.arrive (h : s.Kept v) (r : Request) : (s.arrive r).Kept v := by
  unfold State.arrive
  split
  · exact h
  split
  · exact h.replyAtArrival _
  split
  · exact h.replyAtArrival _
  split
  · exact h.replyAtArrival _
  next hsession _ =>
  have hold := h.steady.replies
  obtain ⟨hclosed, hopened, hcache⟩ := h.steady.session
  refine h.of_engine (line := s.line) rfl rfl ⟨hold.nodup, hold.waiting, hold.bounded, fun x hx => ?_⟩
    ⟨fun hs => ?_, hopened, hcache⟩
  · obtain ⟨hcode, hhead⟩ := hold.overtaken x hx
    refine ⟨hcode, ?_⟩
    cases hinbox : s.engine.inbox with
    | nil => simp [hinbox] at hhead
    | cons q qs => simpa [hinbox] using hhead
  · obtain ⟨h1, h2, h3⟩ := hclosed hs
    refine ⟨h1, h2, fun q hq => ?_⟩
    rcases List.mem_append.mp hq with hq | hq
    · exact h3 q hq
    · rw [List.mem_singleton.mp hq]
      exact Bool.not_eq_false _ ▸ fun hr => hsession ⟨hs, hr⟩

/-! ## The hunter -/

theorem Hunter.initial_lawful : Hunter.initial.Lawful := by decide

/-- The hunter of a run keeps its law through a byte, if the re-examination of kept bytes does (R135, R138). -/
theorem HunterRun.examineWith_lawful {rehunt : List Byte → HunterRun → HunterRun} {r : HunterRun}
    (hrehunt : ∀ (bytes : List Byte) (r : HunterRun), r.hunter.Lawful → (rehunt bytes r).hunter.Lawful)
    (h : r.hunter.Lawful) (b : Byte) : (r.examineWith rehunt b).hunter.Lawful := by
  obtain ⟨hhunt, hlength, hcollect, hcheck, hhigh⟩ := h
  unfold HunterRun.examineWith
  split
  · next hphase =>
    split
    · simp [Hunter.Lawful]
    · exact ⟨hhunt, hlength, hcollect, hcheck, hhigh⟩
  · next hphase =>
    have hone := hlength hphase
    split
    · exact Hunter.initial_lawful
    · next hgood =>
      have hlen : 2 ≤ b.toNat ∧ b.toNat ≤ 250 := by simpa [badLen, Nat.succ_le_iff] using hgood
      simp [Hunter.Lawful, hone]
      omega
  · next hphase =>
    obtain ⟨hone, hmin, hmax⟩ := hcollect hphase
    by_cases hlast : r.hunter.toCollect ≤ 1
    · simp [Hunter.Lawful, hlast]
      omega
    · simp [Hunter.Lawful, hlast]
      omega
  · next hphase =>
    have hkept := hcheck hphase
    split
    · next hnone =>
      simp [Hunter.Lawful, hphase, hnone] at hkept ⊢
      omega
    · unfold HunterRun.judge
      simp only
      split
      · exact hrehunt _ _ Hunter.initial_lawful
      · split
        · split <;> exact Hunter.initial_lawful
        · exact Hunter.initial_lawful

theorem HunterRun.foldl_lawful {f : HunterRun → Byte → HunterRun}
    (hf : ∀ (r : HunterRun) (b : Byte), r.hunter.Lawful → (f r b).hunter.Lawful) (bytes : List Byte) {r : HunterRun}
    (h : r.hunter.Lawful) : (bytes.foldl f r).hunter.Lawful := by
  induction bytes generalizing r with
  | nil => exact h
  | cons b bytes ih => exact ih (hf r b h)

theorem HunterRun.examine_lawful (fuel : Nat) {r : HunterRun} (h : r.hunter.Lawful) (b : Byte) :
    (HunterRun.examine fuel r b).hunter.Lawful := by
  induction fuel generalizing r b with
  | zero => exact HunterRun.examineWith_lawful (fun _ _ h => h) h b
  | succ fuel ih =>
    exact HunterRun.examineWith_lawful (fun bytes _ h => HunterRun.foldl_lawful (fun _ b h => ih h b) bytes h) h b

theorem State.Kept.hunter (h : s.Kept v) {hunter : Hunter} (hh : hunter.Lawful) (linkErrors : Word16) :
    State.Kept { s with line := { s.line with hunter := hunter, linkErrors := linkErrors } } v := by
  have hr := h.steady.replies
  exact ⟨{ h.steady with hunter := hh, replies := ⟨hr.nodup, hr.waiting, hr.bounded, hr.overtaken⟩ }, h.store⟩

theorem State.Kept.takeHunt (h : s.Kept v) {r : HunterRun} (hr : r.hunter.Lawful) : (s.takeHunt r).Kept v := by
  have hfold (rs : List Request) (t : State) (ht : t.Kept v) : (rs.foldl State.arrive t).Kept v := by
    induction rs generalizing t with
    | nil => exact ht
    | cons q qs ih => exact ih _ (ht.arrive q)
  exact hfold r.accepted _ (h.hunter hr r.linkErrors)

end Sys2Proof.Machine
end

section
/-! SUPPORT. What each operation on the delivery queue, the session and the message on HTX keeps of the laws. -/

namespace Sys2Proof.Machine

/-! ## The delivery queue -/

namespace CapturesOrdered

variable {queue : List DeliveryEntry} {capturing : Bool}

/-- A capture joins as WAITING (R74, R165). -/
theorem append (h : CapturesOrdered queue capturing) (n : SlotNo) (number : Word16) :
    CapturesOrdered (queue ++ [⟨n, number, .waiting, .none⟩]) capturing := by
  obtain ⟨hsending, hmark, hpair, hout⟩ := h
  refine ⟨by simpa using hsending, fun e he => ?_, ?_, by simpa using hout⟩
  · rcases List.mem_append.mp he with he | he
    · exact hmark e he
    · simp [List.mem_singleton.mp he]
  · exact List.pairwise_append.mpr ⟨hpair, List.pairwise_singleton _ _, by simp⟩

theorem returned_sending (e : DeliveryEntry) : e.returned.state = .sending ↔ e.state = .sending := by
  rcases e with ⟨n, number, _ | _ | _, _ | _ | _⟩ <;> simp [DeliveryEntry.returned]

theorem returned_not_sent (e : DeliveryEntry) : e.returned.state ≠ .sent := by
  rcases e with ⟨n, number, _ | _ | _, _ | _ | _⟩ <;> simp [DeliveryEntry.returned]

theorem returned_marked (e : DeliveryEntry) (h : e.returned.state = .sending) : e.returned.mark ≠ .none := by
  rcases e with ⟨n, number, _ | _ | _, _ | _ | _⟩ <;> simp [DeliveryEntry.returned] at h ⊢

theorem returned_mark (e : DeliveryEntry) (h : e.returned.mark ≠ .none) : e.mark ≠ .none ∨ e.state = .sending := by
  rcases e with ⟨n, number, _ | _ | _, _ | _ | _⟩ <;> simp [DeliveryEntry.returned] at h ⊢

/-- SENT captures return to WAITING and a SENDING one is marked (R170, R172). -/
theorem map_returned (h : CapturesOrdered queue capturing) :
    CapturesOrdered (queue.map DeliveryEntry.returned) capturing := by
  obtain ⟨hsending, hmark, -, hout⟩ := h
  refine ⟨?_, fun x hx hm => ?_, ?_, ?_⟩
  · rw [List.countP_map, ← hsending]
    exact List.countP_congr fun e _ => by simp [returned_sending]
  · obtain ⟨e, he, rfl⟩ := List.mem_map.mp hx
    exact (returned_sending e).mpr ((returned_mark e hm).elim (hmark e he) id)
  · refine List.pairwise_map.mpr (List.pairwise_of_forall fun a b => ⟨fun hs => ?_, fun hs hm => ?_⟩)
    · exact absurd hs (returned_not_sent b)
    · exact absurd hm (returned_marked b hs)
  · refine Nat.le_trans ?_ hout
    rw [List.countP_map]
    refine List.countP_mono_left fun e _ he => ?_
    have he : e.returned.state = .sending ∨ e.returned.state = .sent := by simpa using he
    have hs := (returned_sending e).mp (he.resolve_right (returned_not_sent e))
    simp [hs]

/-- The capture on HTX completes: a SENDING entry leaves, returns or is SENT (R168). -/
theorem completed (h : CapturesOrdered queue capturing) :
    CapturesOrdered ((queue.filter fun e => !e.leavesAtCompletion).map DeliveryEntry.completed) false := by
  obtain ⟨-, hmark, hpair, hout⟩ := h
  have hnone (e : DeliveryEntry) : e.completed.state ≠ .sending := by
    rcases e with ⟨n, number, _ | _ | _, _ | _ | _⟩ <;> simp [DeliveryEntry.completed]
  have hsent (e : DeliveryEntry) (he : e.completed.state = .sent) :
      e.state = .sent ∨ e.state = .sending ∧ e.mark = .none := by
    rcases e with ⟨n, number, _ | _ | _, _ | _ | _⟩ <;> simp [DeliveryEntry.completed] at he ⊢
  have hmarked (e : DeliveryEntry) (he : e.completed.mark ≠ .none) : e.mark ≠ .none ∧ e.state ≠ .sending := by
    rcases e with ⟨n, number, _ | _ | _, _ | _ | _⟩ <;> simp [DeliveryEntry.completed] at he ⊢
  refine ⟨?_, fun x hx hm => ?_, ?_, ?_⟩
  · rw [if_neg (by decide)]
    refine List.countP_eq_zero.mpr fun x hx => ?_
    obtain ⟨e, -, rfl⟩ := List.mem_map.mp hx
    simp [hnone e]
  · obtain ⟨e, he, rfl⟩ := List.mem_map.mp hx
    obtain ⟨hm', hs⟩ := hmarked e hm
    exact absurd (hmark e (List.mem_of_mem_filter he) hm') hs
  · refine List.pairwise_map.mpr ((hpair.filter _).imp fun {a b} hab => ⟨fun hb => ?_, fun hb => absurd hb (hnone b)⟩)
    have ha : a.state = .sent := (hsent b hb).elim hab.1 fun ⟨hs, hm⟩ => hab.2 hs hm
    simp [DeliveryEntry.completed, ha]
  · refine Nat.le_trans ?_ hout
    rw [List.countP_map]
    refine Nat.le_trans (List.countP_mono_left fun e _ he => ?_) (List.Sublist.countP_le List.filter_sublist)
    have he : e.completed.state = .sending ∨ e.completed.state = .sent := by simpa using he
    rcases hsent e (he.resolve_left (hnone e)) with hs | ⟨hs, -⟩ <;> simp [hs]

/-- The SENDING capture alone is kept, to be removed at its completion (R171). -/
theorem discarded (h : CapturesOrdered queue capturing) :
    CapturesOrdered ((queue.filter fun e => e.state = .sending).map fun e => { e with mark := .toRemove }) capturing := by
  obtain ⟨hsending, -, -, hout⟩ := h
  have hstate (x : DeliveryEntry)
      (hx : x ∈ (queue.filter fun e => e.state = .sending).map fun e => { e with mark := .toRemove }) :
      x.state = .sending ∧ x.mark = .toRemove := by
    obtain ⟨e, he, rfl⟩ := List.mem_map.mp hx
    exact ⟨by simpa using (List.mem_filter.mp he).2, rfl⟩
  refine ⟨?_, fun x hx _ => (hstate x hx).1, ?_, ?_⟩
  · rw [List.countP_map, List.countP_filter, ← hsending]
    exact List.countP_congr fun e _ => by simp
  · refine List.Pairwise.imp_of_mem (R := fun _ _ => True) (fun {a b} _ hb _ => ?_) (List.pairwise_of_forall fun _ _ => trivial)
    obtain ⟨hs, hm⟩ := hstate b hb
    simp [hs, hm]
  · refine Nat.le_trans ?_ hout
    rw [List.countP_map]
    exact List.Sublist.countP_le List.filter_sublist

/-- The entries before a SENT one are all SENT (R164). -/
theorem before_sent {pre post : List DeliveryEntry} {e : DeliveryEntry}
    (h : CapturesOrdered (pre ++ e :: post) capturing) (he : e.state = .sent) : ∀ a ∈ pre, a.state = .sent :=
  fun a ha => ((List.pairwise_append.mp h.2.2.1).2.2 a ha e (by simp)).1 he

/-- The entries up to and with a SENT one are removed (R169). -/
theorem acked {pre left : List DeliveryEntry} {e : DeliveryEntry} (h : CapturesOrdered (pre ++ e :: left) capturing)
    (he : e.state = .sent) : CapturesOrdered left capturing := by
  have hpre := h.before_sent he
  obtain ⟨hsending, hmark, hpair, hout⟩ := h
  have hsub : List.Sublist left (pre ++ e :: left) :=
    (List.sublist_cons_self e left).trans (List.sublist_append_right pre _)
  refine ⟨?_, fun x hx => hmark x (hsub.subset hx), hpair.sublist hsub, Nat.le_trans hsub.countP_le hout⟩
  have hzero : pre.countP (fun e => decide (e.state = .sending)) = 0 :=
    List.countP_eq_zero.mpr fun a ha => by simp [hpre a ha]
  simpa [List.countP_append, List.countP_cons, he, hzero] using hsending

/-- The first WAITING capture becomes SENDING behind SENT ones alone (R167). -/
theorem started {pre post : List DeliveryEntry} {e : DeliveryEntry} (h : CapturesOrdered (pre ++ e :: post) false)
    (hpre : ∀ a ∈ pre, a.state ≠ .waiting) (he : e.state = .waiting)
    (hroom : ((pre ++ e :: post).countP fun e => e.state = .sending || e.state = .sent) < 16) :
    CapturesOrdered (pre ++ { e with state := .sending, mark := .none } :: post) true := by
  obtain ⟨hsending, hmark, hpair, -⟩ := h
  have hidle : ∀ a ∈ pre ++ e :: post, a.state ≠ .sending := fun a ha => by
    simpa using List.countP_eq_zero.mp hsending a ha
  have hsent : ∀ a ∈ pre, a.state = .sent := fun a ha => by
    have h1 := hpre a ha
    have h2 := hidle a (by simp [ha])
    cases hs : a.state <;> simp_all
  obtain ⟨hpre', hcons, hcross⟩ := List.pairwise_append.mp hpair
  obtain ⟨hbehind, hpost⟩ := List.pairwise_cons.mp hcons
  have hpostSent : ∀ b ∈ post, b.state ≠ .sent := fun b hb hs => by simpa [he] using (hbehind b hb).1 hs
  have hpostIdle : ∀ b ∈ post, b.state ≠ .sending := fun b hb => hidle b (by simp [hb])
  refine ⟨?_, fun x hx hm => ?_, ?_, ?_⟩
  · have h1 : pre.countP (fun e => decide (e.state = .sending)) = 0 :=
      List.countP_eq_zero.mpr fun a ha => by simp [hsent a ha]
    have h2 : post.countP (fun e => decide (e.state = .sending)) = 0 :=
      List.countP_eq_zero.mpr fun b hb => by simpa using hpostIdle b hb
    simp [List.countP_append, h1, h2]
  · simp only [List.mem_append, List.mem_cons] at hx
    rcases hx with hx | rfl | hx
    · exact hmark x (by simp [hx]) hm
    · rfl
    · exact hmark x (by simp [hx]) hm
  · refine List.pairwise_append.mpr ⟨hpre', List.pairwise_cons.mpr ⟨fun b hb => ?_, hpost⟩, fun a ha b _ => ?_⟩
    · exact ⟨fun hs => absurd hs (hpostSent b hb), fun hs => absurd hs (hpostIdle b hb)⟩
    · exact ⟨fun _ => hsent a ha, fun _ _ => hsent a ha⟩
  · simp only [List.countP_append, List.countP_cons, he] at hroom ⊢
    simp at hroom ⊢
    omega

end CapturesOrdered

theorem startFirstWaiting_some {queue queue' : List DeliveryEntry} {e : DeliveryEntry}
    (h : startFirstWaiting queue = some (e, queue')) :
    ∃ pre post, queue = pre ++ e :: post ∧ queue' = pre ++ { e with state := .sending, mark := .none } :: post ∧
      (∀ a ∈ pre, a.state ≠ .waiting) ∧ e.state = .waiting := by
  induction queue generalizing queue' with
  | nil => simp [startFirstWaiting] at h
  | cons x queue ih =>
    unfold startFirstWaiting at h
    split at h
    · next hx =>
      obtain ⟨rfl, rfl⟩ : x = e ∧ _ = queue' := by simpa using h
      exact ⟨[], queue, rfl, rfl, by simp, hx⟩
    · next hx =>
      obtain ⟨⟨e', q⟩, hfound, heq⟩ := Option.map_eq_some_iff.mp h
      obtain ⟨rfl, rfl⟩ : e' = e ∧ x :: q = queue' := by simpa using heq
      obtain ⟨pre, post, rfl, rfl, hpre, he⟩ := ih hfound
      exact ⟨x :: pre, post, rfl, rfl, by simpa [hx] using hpre, he⟩

theorem splitAtSent_some {number : Word16} {queue removed left : List DeliveryEntry}
    (h : splitAtSent number queue = some (removed, left)) :
    ∃ pre e, removed = pre ++ [e] ∧ queue = pre ++ e :: left ∧ e.state = .sent := by
  induction queue generalizing removed with
  | nil => simp [splitAtSent] at h
  | cons x queue ih =>
    unfold splitAtSent at h
    split at h
    · next hx =>
      obtain ⟨rfl, rfl⟩ : [x] = removed ∧ queue = left := by simpa using h
      exact ⟨[], x, rfl, rfl, hx.1⟩
    · obtain ⟨⟨a, b⟩, hfound, heq⟩ := Option.map_eq_some_iff.mp h
      obtain ⟨rfl, rfl⟩ : x :: a = removed ∧ b = left := by simpa using heq
      obtain ⟨pre, e, rfl, rfl, he⟩ := ih hfound
      exact ⟨x :: pre, e, rfl, rfl, he⟩

/-! ## The delivery queue of the part -/

variable {s : State} {v : View}

theorem State.not_sends_of_free {kind : MessageClass} (h : s.line.htx = none) : s.sends kind = false := by
  simp [State.sends, h]

/-- A message of a class other than CAPTURE goes on a free HTX, or leaves it. -/
theorem State.Kept.htx (h : s.Kept v) (hold : s.sends .capture = false) {m : Option Transmission}
    (hnew : (m.any fun m => m.kind = .capture) = false) : State.Kept { s with line := { s.line with htx := m } } v := by
  have hdelivery : CapturesOrdered s.delivery.queue (m.any fun m => m.kind = .capture) := by
    rw [hnew, ← hold]
    exact h.steady.delivery
  exact ⟨{ h.steady with delivery := hdelivery, replies := h.steady.replies }, h.store⟩

/-- The delivery queue changes while its slots stay (R164). -/
theorem State.Kept.delivery (h : s.Kept v) {queue : List DeliveryEntry}
    (hslots : queue.map DeliveryEntry.slot = s.delivery.queue.map DeliveryEntry.slot)
    (hq : CapturesOrdered queue (s.sends .capture)) :
    State.Kept { s with delivery := { s.delivery with queue := queue } } v :=
  ⟨{ h.steady with delivery := hq, session := h.steady.session },
    h.store.perm (List.Perm.refl _) (.of_eq hslots.symm)⟩

/-- Captures leave the delivery queue, and DELIVERY leaves their slots (R168, R169, R171). -/
theorem State.Kept.removeCaptures (h : s.Kept v) {removed kept : List DeliveryEntry}
    (hperm : (s.delivery.queue.map DeliveryEntry.slot).Perm
      (removed.map DeliveryEntry.slot ++ kept.map DeliveryEntry.slot))
    (hq : CapturesOrdered kept (s.sends .capture)) :
    State.Kept { s with
      delivery := { s.delivery with queue := kept }
      store := s.store.leaveAll .delivery (removed.map DeliveryEntry.slot) } v :=
  ⟨{ h.steady with delivery := hq, session := h.steady.session }, (h.store.perm (List.Perm.refl _) hperm).leaveAll_delivery⟩

/-- W is set; in a CLOSED session to 0 alone (R166, R172). -/
theorem State.Kept.window (h : s.Kept v) {window : Nat} (hw : s.engine.session = .opened ∨ window = 0) :
    State.Kept { s with delivery := { s.delivery with window := window } } v := by
  obtain ⟨hclosed, hopened, hcache⟩ := h.steady.session
  refine ⟨{ h.steady with session := ⟨fun hs => ?_, hopened, hcache⟩ }, h.store⟩
  obtain ⟨h1, -, h3⟩ := hclosed hs
  exact ⟨h1, hw.resolve_left (by rw [show s.engine.session = .closed from hs]; decide), h3⟩

theorem returned_slot (e : DeliveryEntry) : e.returned.slot = e.slot := by
  rcases e with ⟨n, number, _ | _ | _, _ | _ | _⟩ <;> rfl

theorem completed_slot (e : DeliveryEntry) : e.completed.slot = e.slot := by
  rcases e with ⟨n, number, _ | _ | _, _ | _ | _⟩ <;> rfl

theorem map_returned_slot (queue : List DeliveryEntry) :
    (queue.map DeliveryEntry.returned).map DeliveryEntry.slot = queue.map DeliveryEntry.slot := by
  simp [Function.comp_def, returned_slot]

/-! ## The session -/

theorem State.Kept.endSession (h : s.Kept v) : s.endSession.Kept v := by
  have hold := h.steady.replies
  have hreturned := h.delivery (map_returned_slot s.delivery.queue) (CapturesOrdered.map_returned h.steady.delivery)
  obtain ⟨-, hopened, -⟩ := h.steady.session
  refine ⟨{ hreturned.steady with
    replies := ⟨hold.nodup, hold.waiting, hold.bounded, by simp [State.endSession]⟩
    session := ⟨fun _ => ⟨rfl, rfl, by simp [State.endSession]⟩, fun hs => by simp [State.endSession] at hs,
      by simp [State.endSession]⟩ }, hreturned.store⟩

theorem nextEpoch_ne_zero (epoch : Byte) : nextEpoch epoch ≠ 0 := by
  unfold nextEpoch
  split
  · decide
  · next h => bv_omega

/-- A HELLO ends an OPEN session and opens the next (R147). -/
def State.sessionOpened (s : State) : State :=
  let ended := if s.engine.session = .opened then s.endSession else s
  { ended with
    engine := { ended.engine with cache := [], epoch := nextEpoch ended.engine.epoch, session := .opened }
    delivery := { ended.delivery with window := 0 } }

theorem State.runHello_eq (s : State) (r : Request) :
    s.runHello r = s.sessionOpened.answer r .ok 0 (helloResult s.sessionOpened.engine.epoch) := rfl

theorem State.Kept.sessionOpened (h : s.Kept v) : s.sessionOpened.Kept v := by
  have hended : (if s.engine.session = .opened then s.endSession else s).Kept v := by
    split
    · exact h.endSession
    · exact h
  unfold State.sessionOpened
  generalize (if s.engine.session = .opened then s.endSession else s) = ended at hended
  have hold := hended.steady.replies
  exact ⟨{ hended.steady with
    replies := ⟨hold.nodup, hold.waiting, hold.bounded, hold.overtaken⟩
    session := ⟨nofun, fun _ => nextEpoch_ne_zero _, List.nodup_nil⟩ }, hended.store⟩

/-! ## Messages on HTX -/

theorem State.Kept.transmit (h : s.Kept v) (hfree : s.line.htx = none) {kind : MessageClass} (hkind : kind ≠ .capture)
    (bytes : List Byte) : (s.transmit kind bytes).Kept v :=
  h.htx (State.not_sends_of_free hfree) (by simp [hkind])

theorem State.Kept.freeTransmitter (h : s.Kept v) (hcapture : s.sends .capture = false) : s.freeTransmitter.Kept v :=
  h.htx hcapture rfl

/-- Only one message is on HTX. -/
theorem State.not_sends_capture {kind : MessageClass} (h : s.sends kind = true) (hk : kind ≠ .capture) :
    s.sends .capture = false := by
  unfold State.sends at h ⊢
  cases hm : s.line.htx with
  | none => rfl
  | some m =>
    have hkind : m.kind = kind := by simpa [hm] using h
    simp [hkind, hk]

/-- A CAPTURE notice starts (R166, R167). -/
theorem State.Kept.startCapture (h : s.Kept v) (hfree : s.line.htx = none) (hwindow : s.delivery.window ≤ 16) :
    s.startCapture.Kept v := by
  unfold State.startCapture
  split
  · next hroom =>
    split
    · exact h
    · next e queue hstart =>
      obtain ⟨pre, post, hq, rfl, hpre, he⟩ := startFirstWaiting_some hstart
      have hordered := h.steady.delivery
      rw [State.not_sends_of_free hfree, hq] at hordered
      have hless : ((pre ++ e :: post).countP fun e => e.state = .sending || e.state = .sent) < 16 := by
        rw [← hq]
        exact Nat.lt_of_lt_of_le hroom hwindow
      have hstore := h.store
      rw [State.StoreFits, hq] at hstore
      refine ⟨{ h.steady with
        delivery := hordered.started hpre he hless
        replies := h.steady.replies
        session := h.steady.session }, ?_⟩
      simpa [State.StoreFits, State.transmit] using hstore
  · exact h

theorem State.Kept.startNotice (h : s.Kept v) (hfree : s.line.htx = none) (hwindow : s.delivery.window ≤ 16) :
    s.startNotice.Kept v := by
  unfold State.startNotice
  split
  · exact h.transmit hfree (by decide) _
  · have htaken : State.Kept { s with events := { s.events with lost := 0 } } v :=
      ⟨{ h.steady with events := h.steady.events }, h.store⟩
    exact htaken.transmit hfree (by decide) _
  · exact h.startCapture hfree hwindow

/-! ## What the completion of a message and the arrival of a byte keep -/

theorem State.Kept.captureCompleted (h : s.Kept v) :
    State.Kept { s.freeTransmitter with
      delivery := { s.delivery with
        queue := (s.delivery.queue.filter fun e => !e.leavesAtCompletion).map DeliveryEntry.completed }
      store := s.store.leaveAll .delivery
        ((s.delivery.queue.filter DeliveryEntry.leavesAtCompletion).map DeliveryEntry.slot) } v := by
  have hperm : (s.delivery.queue.map DeliveryEntry.slot).Perm
      ((s.delivery.queue.filter DeliveryEntry.leavesAtCompletion).map DeliveryEntry.slot ++
        ((s.delivery.queue.filter fun e => !e.leavesAtCompletion).map DeliveryEntry.completed).map
          DeliveryEntry.slot) := by
    rw [List.map_map, show DeliveryEntry.slot ∘ DeliveryEntry.completed = DeliveryEntry.slot from funext completed_slot,
      ← List.map_append]
    exact ((List.filter_append_perm _ _).map _).symm
  exact ⟨{ h.steady with
      delivery := CapturesOrdered.completed h.steady.delivery
      replies := h.steady.replies
      session := h.steady.session }, (h.store.perm (List.Perm.refl _) hperm).leaveAll_delivery⟩

end Sys2Proof.Machine
end

section
/-! SUPPORT. What each operation on the relay queue, the host entries and the frame store keeps of the laws. -/

namespace Sys2Proof.Machine

variable {s : State} {v : View}

/-! ## The view -/

/-- The taps, the trunk port and the controller change; what the view says is kept apart. -/
theorem State.Kept.outer (h : s.Kept v) (part : PartState) (stop : Option StopRecord)
    (taps : Vector Tap Config.tapCount) (trunk : Trunk) :
    State.Kept { s with part := part, stop := stop, taps := taps, trunk := trunk } v :=
  ⟨{ h.steady with }, h.store⟩

/-- A part in which nothing waits for transmission may be idle. -/
theorem State.Kept.become_idle (h : s.Kept v) {idle : Prop} (hq : idle → s.Quiet) : s.Kept { v with idle := idle } :=
  ⟨{ h.steady with quiet := hq }, h.store⟩

/-! ## The attempt in flight -/

section
variable {entries : Vector HostEntry Config.entryCount} {relay : Relay} {c : Option Candidate} {e : EntryNo} {x : HostEntry}

/-- An entry whose attempt is over is in flight no more. -/
theorem FlightFits.land (h : FlightFits entries relay (some (.entry e))) (hx : x.state ≠ .inFlight) :
    FlightFits (entries.set e x) relay none where
  entry k := by
    by_cases hk : k = e
    · simp [hk, get_set_same, hx]
    · have hk' : ¬ e = k := fun he => hk he.symm
      simpa [get_set_other _ _ hk, hk'] using h.entry k
  head := by simp
  flush hf := by simpa using h.flush hf
  attempts := h.attempts

/-- An entry is put in flight. -/
theorem FlightFits.depart (h : FlightFits entries relay none) (hx : x.state = .inFlight) :
    FlightFits (entries.set e x) relay (some (.entry e)) where
  entry k := by
    by_cases hk : k = e
    · simp [hk, get_set_same, hx]
    · have hk' : ¬ e = k := fun he => hk he.symm
      simpa [get_set_other _ _ hk, hk'] using h.entry k
  head := by simp
  flush hf := by simpa using h.flush hf
  attempts := h.attempts

/-- An entry changes that stays in flight or out of it. -/
theorem FlightFits.set (h : FlightFits entries relay c) (hx : x.state = .inFlight ↔ (entries.get e).state = .inFlight) :
    FlightFits (entries.set e x) relay c where
  entry k := by
    by_cases hk : k = e
    · rw [hk, get_set_same, hx]
      exact h.entry e
    · rw [get_set_other _ _ hk]
      exact h.entry k
  head := h.head
  flush := h.flush
  attempts := h.attempts

/-- A queue without a flushed head, after an attempt of the head or of none. -/
theorem FlightFits.of_fresh {relay' : Relay} (h : FlightFits entries relay c) (hc : ∀ e, c ≠ some (.entry e))
    (hfresh : relay'.headRecord = .fresh) : FlightFits entries relay' none where
  entry k := by simpa [hc k] using h.entry k
  head := by simp
  flush := by simp [hfresh, HeadRecord.fresh]
  attempts := by simp [hfresh, HeadRecord.fresh]

end

/-! ## Host entries -/

theorem State.Kept.entry_lawful (h : s.Kept v) (e : EntryNo) : (s.entry e).Lawful := h.steady.entries.1 e

/-- An entry that holds a slot has one. -/
theorem State.Kept.slot_of_holds (h : s.Kept v) {e : EntryNo} (he : (s.entry e).holdsSlot = true) :
    ∃ n, (s.entry e).slot = some n := by
  obtain ⟨hslot, -⟩ := h.entry_lawful e
  exact Option.isSome_iff_exists.mp (hslot.trans he)

theorem State.EntriesLawful.set (h : s.EntriesLawful) {e : EntryNo} {x : HostEntry} (hx : x.Lawful)
    (hdone : x.state = .done ↔ (s.entry e).state = .done) :
    State.EntriesLawful { s with entries := s.entries.set e x } := by
  obtain ⟨hlawful, hnodup, hlist⟩ := h
  refine ⟨fun k => ?_, hnodup, fun k => ?_⟩
  · change ((s.entries.set e x).get k).Lawful
    by_cases hk : k = e
    · rwa [hk, get_set_same]
    · rw [get_set_other _ _ hk]
      exact hlawful k
  · change ((s.entries.set e x).get k).state = .done ↔ _
    by_cases hk : k = e
    · rw [hk, get_set_same, hdone]
      exact hlist e
    · rw [get_set_other _ _ hk]
      exact hlist k

/-- An entry changes that keeps its slot (R85). -/
theorem State.Kept.setEntry (h : s.Kept v) {e : EntryNo} {x : HostEntry} {c : Option Candidate} (hx : x.Lawful)
    (hslot : x.slot = (s.entry e).slot) (hdone : x.state = .done ↔ (s.entry e).state = .done)
    (hflight : FlightFits (s.entries.set e x) s.relay c) :
    State.Kept { s with entries := s.entries.set e x } { v with flight := c } := by
  have hholds : x.holdsSlot = (s.entry e).holdsSlot := by
    rw [← hx.1, hslot, (h.entry_lawful e).1]
  refine ⟨{ h.steady with
    entries := h.steady.entries.set hx hdone
    flight := hflight
    quiet := fun hi => ⟨(h.steady.quiet hi).1, fun k => ?_⟩ }, h.store.entry hslot hholds⟩
  change ((s.entries.set e x).get k).holdsSlot = false
  by_cases hk : k = e
  · rw [hk, get_set_same, hholds]
    exact (h.steady.quiet hi).2 e
  · rw [get_set_other _ _ hk]
    exact (h.steady.quiet hi).2 k

/-- The record of an entry that becomes DONE (R88). -/
def HostEntry.finished (attempts : Nat) (outcome : EntryOutcome) : HostEntry where
  state := .done
  slot := none
  attempts := attempts
  cancelRequested := false
  outcome := some outcome

theorem HostEntry.finished_lawful {attempts : Nat} (outcome : EntryOutcome) (h : attempts ≤ 16) :
    (HostEntry.finished attempts outcome).Lawful := by
  simp [HostEntry.Lawful, HostEntry.finished, HostEntry.holdsSlot, h]

/-- An entry that holds slot `n` becomes DONE, and its slot is released (R88). -/
theorem State.Kept.finish (h : s.Kept v) {e : EntryNo} {n : SlotNo} {attempts : Nat} {outcome : EntryOutcome}
    {record : TxDone} {c : Option Candidate} (hn : (s.entry e).slot = some n) (ha : attempts ≤ 16)
    (hrecord : record.entry = e)
    (hflight : FlightFits (s.entries.set e (.finished attempts outcome)) s.relay c) :
    State.Kept { s with
      txDone := s.txDone ++ [record]
      store := s.store.leave .entry n
      entries := s.entries.set e (.finished attempts outcome) } { v with flight := c } := by
  obtain ⟨hlawful, hnodup, hlist⟩ := h.steady.entries
  have hholds : (s.entry e).holdsSlot = true := by
    rw [← (hlawful e).1, hn]
    rfl
  have hnotDone : (s.entry e).state ≠ .done := fun hd => by simp [HostEntry.holdsSlot, hd] at hholds
  have hget (k : EntryNo) : (s.entries.set e (.finished attempts outcome)).get k =
      if k = e then .finished attempts outcome else s.entry k := by
    split
    · next hk => rw [hk, get_set_same]
    · next hk => exact get_set_other _ _ hk
  refine ⟨{ h.steady with
    entries := ⟨fun k => ?_, ?_, fun k => ?_⟩
    flight := hflight
    quiet := fun hi => ⟨(h.steady.quiet hi).1, fun k => ?_⟩ }, h.store.leave_entry hn rfl rfl⟩
  · change ((s.entries.set e _).get k).Lawful
    rw [hget]
    split
    · exact HostEntry.finished_lawful outcome ha
    · exact hlawful k
  · rw [List.map_append]
    refine List.nodup_append.mpr ⟨hnodup, by simp, ?_⟩
    simpa [hrecord] using fun r hr (he : r.entry = e) => hnotDone ((hlist e).mpr (List.mem_map.mpr ⟨r, hr, he⟩))
  · change ((s.entries.set e _).get k).state = .done ↔ _
    rw [hget, List.map_append, List.mem_append, ← hlist k]
    by_cases hk : k = e
    · simp [hk, hrecord, HostEntry.finished]
    · simp [hk, hrecord]
  · change ((s.entries.set e _).get k).holdsSlot = false
    rw [hget]
    split
    · rfl
    · exact (h.steady.quiet hi).2 k

theorem State.entryDone_eq {e : EntryNo} {n : SlotNo} (hn : (s.entry e).slot = some n) (outcome : EntryOutcome) :
    s.entryDone e outcome = { s with
      txDone := s.txDone ++ [⟨e, outcome, (s.entry e).attempts, (s.store.record n).tagOut, (s.store.record n).stamp⟩]
      store := s.store.leave .entry n
      entries := s.entries.set e (.finished (s.entry e).attempts outcome) } := by
  simp [State.entryDone, hn, HostEntry.finished]

/-- A PENDING entry becomes DONE (R88). -/
theorem State.Kept.entryDone_pending (h : s.Kept v) {e : EntryNo} (he : (s.entry e).state = .pending)
    (outcome : EntryOutcome) : (s.entryDone e outcome).Kept v := by
  obtain ⟨n, hn⟩ := h.slot_of_holds (e := e) (by simp [HostEntry.holdsSlot, he])
  have he' : (s.entries.get e).state = .pending := he
  rw [State.entryDone_eq hn]
  exact h.finish hn (h.entry_lawful e).2.2.2.2.1 rfl (h.steady.flight.set (by simp [HostEntry.finished, he']))

/-- An entry whose attempt is over becomes DONE, with its attempts as raised (R88, R95). -/
theorem State.Kept.entryDone_flight (h : s.Kept v) {e : EntryNo} (hf : v.flight = some (.entry e)) {attempts : Nat}
    (ha : attempts ≤ 16) (outcome : EntryOutcome) :
    ((s.modEntry e fun x => { x with attempts := attempts }).entryDone e outcome).Kept { v with flight := none } := by
  have hflight := h.steady.flight
  rw [hf] at hflight
  have he : (s.entry e).state = .inFlight := (hflight.entry e).mpr rfl
  obtain ⟨n, hn⟩ := h.slot_of_holds (e := e) (by simp [HostEntry.holdsSlot, he])
  have hn' : ((s.modEntry e fun x => { x with attempts := attempts }).entry e).slot = some n := by
    rw [State.entry_modEntry_same]
    exact hn
  rw [State.entryDone_eq hn', State.entry_modEntry_same]
  simp only [State.modEntry, set_set_same]
  exact h.finish hn ha rfl (hflight.land (by simp [HostEntry.finished]))

theorem State.modEntry_attempts_self (s : State) (e : EntryNo) :
    (s.modEntry e fun x => { x with attempts := (s.entry e).attempts }) = s :=
  congrArg (fun entries => ({ s with entries := entries } : State)) (set_get_self s.entries e)

/-- An entry whose attempt is over is PENDING again (R97, R98). -/
theorem State.Kept.entry_pending (h : s.Kept v) {e : EntryNo} (hf : v.flight = some (.entry e)) {attempts : Nat}
    (ha : attempts ≤ 15) (hcancel : (s.entry e).cancelRequested = false) :
    State.Kept { s with entries := s.entries.set e { s.entry e with state := .pending, attempts := attempts } }
      { v with flight := none } := by
  have hflight := h.steady.flight
  rw [hf] at hflight
  have he : (s.entry e).state = .inFlight := (hflight.entry e).mpr rfl
  obtain ⟨hslot, houtcome, -, -, -, -⟩ := h.entry_lawful e
  refine h.setEntry ?_ rfl (by simp [he]) (hflight.land (by simp))
  refine ⟨?_, ?_, by simp, by simp [hcancel], by simp only; omega, fun _ => ha⟩
  · simpa [HostEntry.holdsSlot, he] using hslot
  · simpa [he] using houtcome

/-- The record of a TX_DONE notice that completes leaves the list, and its entry becomes FREE (R180). -/
theorem State.Kept.txDoneCompleted (h : s.Kept v) {record : TxDone} {rest : List TxDone} (hlist : s.txDone = record :: rest) :
    State.Kept { s with txDone := rest, entries := s.entries.set record.entry .initial } v := by
  obtain ⟨hlawful, hnodup, hdone⟩ := h.steady.entries
  have he : (s.entry record.entry).state = .done := (hdone _).mpr (by simp [hlist])
  have he' : (s.entries.get record.entry).state = .done := he
  rw [hlist, List.map_cons, List.nodup_cons] at hnodup
  have hslot : (s.entries.get record.entry).slot = none := by
    have := (hlawful record.entry).1
    rw [HostEntry.holdsSlot, he] at this
    simpa [State.entry] using this
  have hholds : (s.entries.get record.entry).holdsSlot = false := by simp [HostEntry.holdsSlot, he']
  have hget (k : EntryNo) : (s.entries.set record.entry .initial).get k =
      if k = record.entry then .initial else s.entry k := by
    split
    · next hk => rw [hk, get_set_same]
    · next hk => exact get_set_other _ _ hk
  refine ⟨{ h.steady with
    entries := ⟨fun k => ?_, hnodup.2, fun k => ?_⟩
    flight := h.steady.flight.set (by simp [HostEntry.initial, he'])
    quiet := fun hi => ⟨(h.steady.quiet hi).1, fun k => ?_⟩ }, h.store.entry hslot.symm hholds.symm⟩
  · change ((s.entries.set _ _).get k).Lawful
    rw [hget]
    split
    · decide
    · exact hlawful k
  · change ((s.entries.set _ _).get k).state = .done ↔ k ∈ rest.map TxDone.entry
    rw [hget]
    by_cases hk : k = record.entry
    · simpa [hk, HostEntry.initial] using hnodup.1
    · have := hdone k
      simp only [hlist, List.map_cons, List.mem_cons, hk, false_or] at this
      simpa [hk] using this
  · change ((s.entries.set _ _).get k).holdsSlot = false
    rw [hget]
    split
    · rfl
    · exact (h.steady.quiet hi).2 k

/-! ## The relay queue -/

/-- The relay block changes while its queue stays. -/
theorem State.Kept.setRelay (h : s.Kept v) {relay : Relay} {c : Option Candidate} (hqueue : relay.queue = s.relay.queue)
    (hhead : relay.head.isSome = s.relay.head.isSome) (hflight : FlightFits s.entries relay c) :
    State.Kept { s with relay := relay } { v with flight := c } := by
  refine ⟨{ h.steady with
    head := ?_
    flight := hflight
    quiet := fun hi => ⟨?_, (h.steady.quiet hi).2⟩ }, ?_⟩
  · change relay.head.isSome = !relay.queue.isEmpty
    rw [hqueue, hhead]
    exact h.steady.head
  · change relay.queue = []
    rw [hqueue]
    exact (h.steady.quiet hi).1
  · change s.store.Fits relay.queue _ _ _
    rw [hqueue]
    exact h.store

/-- Entries leave the relay queue, and RELAY leaves their slots (R95, R101, R188). -/
theorem State.Kept.cutRelay (h : s.Kept v) {relay : Relay} {removed : List SlotNo} {c : Option Candidate}
    (hperm : s.relay.queue.Perm (removed ++ relay.queue)) (hhead : relay.head.isSome = !relay.queue.isEmpty)
    (hflight : FlightFits s.entries relay c) :
    State.Kept { s with relay := relay, store := s.store.leaveAll .relay removed } { v with flight := c } := by
  refine ⟨{ h.steady with
    head := hhead
    flight := hflight
    quiet := fun hi => ⟨?_, (h.steady.quiet hi).2⟩ }, (h.store.perm hperm (List.Perm.refl _)).leaveAll_relay⟩
  rw [(h.steady.quiet hi).1] at hperm
  exact (List.append_eq_nil_iff.mp hperm.nil_eq.symm).2

/-- The head leaves the queue after its attempt (R95, R98). -/
theorem State.Kept.removeHead (h : s.Kept v) (hf : v.flight = some .relayHead) :
    s.removeHead.Kept { v with flight := none } := by
  have hflight := h.steady.flight
  rw [hf] at hflight
  obtain ⟨n, rest, hq⟩ := List.exists_cons_of_ne_nil (hflight.head rfl)
  rw [State.removeHead_cons hq]
  refine h.cutRelay (removed := [n]) (by simp [hq]) ?_ (hflight.of_fresh (by simp) ?_)
  · cases rest <;> rfl
  · cases rest <;> rfl

theorem State.Kept.abandonHead (h : s.Kept v) (hf : v.flight = some .relayHead) (reason : AbandonReason) :
    (s.abandonHead reason).Kept { v with flight := none } := by
  obtain ⟨n, rest, hq⟩ := List.exists_cons_of_ne_nil (h.steady.flight.head hf)
  simp only [State.abandonHead, hq]
  exact (h.storeEvent _).removeHead hf

/-- FLUSH_RELAY removes every entry but a head in flight, which becomes flush-pending (R101). -/
theorem State.Kept.flush (h : s.Kept v) {headInFlight : Bool}
    (hf : headInFlight = true ↔ v.flight = some .relayHead) :
    State.Kept { s with
      relay := (s.relay.flush headInFlight).1
      store := s.store.leaveAll .relay (s.relay.flush headInFlight).2 } v := by
  have hflight := h.steady.flight
  have hhead : s.relay.head.isSome = !s.relay.queue.isEmpty := h.steady.head
  cases headInFlight with
  | true =>
    have hf := hf.mp rfl
    obtain ⟨n, rest, hq⟩ := List.exists_cons_of_ne_nil (hflight.head hf)
    rw [hq] at hhead
    obtain ⟨x, hx⟩ := Option.isSome_iff_exists.mp hhead
    have hattempts := hflight.attempts
    refine h.cutRelay (c := v.flight) ?_ ?_ ⟨hflight.entry, ?_, fun _ => hf, ?_⟩
    · exact (List.Perm.of_eq (List.take_append_drop 1 s.relay.queue).symm).trans List.perm_append_comm
    · simp [Relay.flush, hq, hx]
    · simp [Relay.flush, hq]
    · simpa [Relay.flush, Relay.headRecord, hx] using hattempts
  | false =>
    refine h.cutRelay (c := v.flight) (by simp [Relay.flush]) rfl ⟨hflight.entry, fun hc => ?_, ?_, ?_⟩
    · exact absurd (hf.mpr hc) (by decide)
    · simp [Relay.flush, Relay.headRecord, HeadRecord.fresh]
    · simp [Relay.flush, Relay.headRecord, HeadRecord.fresh]

/-! ## Outcomes of an attempt -/

theorem State.Kept.applySent (h : s.Kept v) {c : Candidate} (hf : v.flight = some c) :
    (s.applySent c).Kept { v with flight := none } := by
  cases c with
  | relayHead => exact h.removeHead hf
  | entry e =>
    have he : (s.entry e).state = .inFlight := (h.steady.flight.entry e).mpr hf
    have ha : (s.entry e).attempts ≤ 15 := (h.entry_lawful e).2.2.2.2.2 (by simp [HostEntry.holdsSlot, he])
    exact h.entryDone_flight hf (attempts := (s.entry e).attempts + 1) (by omega) .sent

/-- The attempt of a head without a flush pending is over, and the head stays. -/
theorem State.Kept.head_stays (h : s.Kept v) (hf : v.flight = some .relayHead)
    (hflush : s.relay.headRecord.flushPending = false) : s.Kept { v with flight := none } := by
  have hflight := h.steady.flight
  refine ⟨{ h.steady with flight := ⟨fun e => ?_, by simp, by simp [hflush], hflight.attempts⟩ }, h.store⟩
  simpa [hf] using hflight.entry e

theorem State.Kept.applyLost (h : s.Kept v) {c : Candidate} (hf : v.flight = some c) :
    (s.applyLost c).Kept { v with flight := none } := by
  cases c with
  | relayHead =>
    simp only [State.applyLost]
    split
    · exact h.abandonHead hf .flushed
    · next hflush => exact h.head_stays hf (by simpa using hflush)
  | entry e =>
    have he : (s.entry e).state = .inFlight := (h.steady.flight.entry e).mpr hf
    have ha : (s.entry e).attempts ≤ 15 := (h.entry_lawful e).2.2.2.2.2 (by simp [HostEntry.holdsSlot, he])
    simp only [State.applyLost]
    split
    · have hdone := h.entryDone_flight hf (attempts := (s.entry e).attempts) (by omega) .cancelled
      rwa [State.modEntry_attempts_self] at hdone
    · next hcancel => exact h.entry_pending hf ha (by simpa using hcancel)

theorem State.Kept.applyFault (h : s.Kept v) (hlimit : s.relay.retryLimit ≤ 15) {c : Candidate} (hf : v.flight = some c) :
    (s.applyFault c).Kept { v with flight := none } := by
  cases c with
  | relayHead =>
    have hflight := h.steady.flight
    have hq := hflight.head hf
    have hhead : s.relay.head.isSome = true := by
      have hexact : s.relay.head.isSome = !s.relay.queue.isEmpty := h.steady.head
      rw [hexact]
      simpa using hq
    obtain ⟨x, hx⟩ := Option.isSome_iff_exists.mp hhead
    have hraised (limit : (x.attempts + 1) ≤ 15) : s.raiseHeadAttempts.Kept v :=
      h.setRelay (c := v.flight) rfl (by simp [hx])
        ⟨hflight.entry, hflight.head, fun _ => hf, by simpa [Relay.headRecord, hx] using limit⟩
    have hremoved : s.raiseHeadAttempts.removeHead.Kept { v with flight := none } := by
      obtain ⟨n, rest, hq⟩ := List.exists_cons_of_ne_nil hq
      rw [State.removeHead_cons (s := s.raiseHeadAttempts) hq]
      rw [hf] at hflight
      refine h.cutRelay (removed := [n]) (by simp [hq]) ?_ (hflight.of_fresh (by simp) ?_)
      · cases rest <;> rfl
      · cases rest <;> rfl
    have habandoned (reason : AbandonReason) : (s.raiseHeadAttempts.abandonHead reason).Kept { v with flight := none } := by
      obtain ⟨n, rest, hq⟩ := List.exists_cons_of_ne_nil hq
      have hq' : s.raiseHeadAttempts.relay.queue = n :: rest := hq
      have hevent := hremoved.storeEvent (.relayAbandon reason (s.store.source n) ((s.store.record n).seq.getD 0)
        (s.store.record n).tagOut s.raiseHeadAttempts.relay.headRecord.attempts)
      simp only [State.abandonHead, hq']
      rw [State.removeHead_cons hq'] at hevent
      rw [State.removeHead_cons (s := s.raiseHeadAttempts.storeEvent _) hq']
      exact hevent
    simp only [State.applyFault]
    split
    · exact habandoned .flushed
    · next hflush =>
      split
      · exact habandoned .retries
      · next hmore =>
        have hraise : s.raiseHeadAttempts.relay.headRecord.attempts = x.attempts + 1 := by
          simp [State.raiseHeadAttempts, Relay.headRecord, hx]
        have : s.raiseHeadAttempts.relay.retryLimit = s.relay.retryLimit := rfl
        exact (hraised (by omega)).head_stays hf (by simpa using hflush)
  | entry e =>
    have he : (s.entry e).state = .inFlight := (h.steady.flight.entry e).mpr hf
    have ha : (s.entry e).attempts ≤ 15 := (h.entry_lawful e).2.2.2.2.2 (by simp [HostEntry.holdsSlot, he])
    have hraised := s.entry_modEntry_same e fun x => { x with attempts := x.attempts + 1 }
    have hdone (outcome : EntryOutcome) := h.entryDone_flight hf (attempts := (s.entry e).attempts + 1) (by omega) outcome
    simp only [State.applyFault]
    split
    · exact hdone .cancelled
    · next hcancel =>
      split
      · exact hdone .abandoned
      · next hmore =>
        rw [hraised] at hcancel hmore
        have hmore : ¬ s.relay.retryLimit < (s.entry e).attempts + 1 := hmore
        have hpending := h.entry_pending hf (attempts := (s.entry e).attempts + 1) (by omega) (by simpa using hcancel)
        simpa only [State.modEntry, State.entry, get_set_same, set_set_same] using hpending

end Sys2Proof.Machine
end

section
/-! SUPPORT. What the slot decision, the end of a frame, the placing of a host entry's frame and the completion of STOP keep of the
laws. -/

namespace Sys2Proof.Machine

variable {s : State} {v : View}

/-- The view with the slot of the frame in progress at one ingress as given. -/
def View.fill (v : View) (i : IngressNo) (n : Option SlotNo) : View := { v with filling := Function.update v.filling i n }

/-- An ingress without a frame in a slot stays without one. -/
theorem State.Kept.fill_none (h : s.Kept v) {i : IngressNo} (hi : v.filling i = none) : s.Kept (v.fill i none) :=
  h.of_view (by rw [View.fill, ← hi, Function.update_eq_self]) rfl (fun _ => Iff.rfl) id

/-! ## The slot decision -/

/-- A start of frame: the frame in progress is granted a slot or goes on unstored (R20, R21). -/
theorem State.Kept.allocate (h : s.Kept v) {i : IngressNo} (hi : v.filling i = none) (stamp : Word32) :
    (s.allocate i stamp).1.Kept (v.fill i (s.allocate i stamp).2.slotNo) := by
  unfold State.allocate
  split
  · exact h.fill_none hi
  split
  · exact h.fill_none hi
  split
  · exact h.fill_none hi
  next hpool _ n rest hn =>
  have hroom : Config.entryCount < s.store.freeList.length + s.entries.toList.countP HostEntry.holdsSlot := by
    simp only [Store.freeCount, State.reserveNeed, State.holdingEntries] at hpool
    omega
  exact ⟨{ h.steady with }, h.store.grant hn hi hroom⟩

/-! ## Classification -/

/-- A target that is offered to the relay queue. -/
theorem Target.toRelay_iff (t : Target) : t.toRelay = true ↔ t = .relay ∨ t = .both := by
  cases t <;> simp [Target.toRelay]

theorem firstHit_mem {f : Frame} {k j : Nat} {w : Window} {ws : List Window} (h : firstHit f k ws = some (j, w)) :
    w ∈ ws := by
  induction ws generalizing k with
  | nil => simp [firstHit] at h
  | cons x ws ih =>
    unfold firstHit at h
    split at h
    · obtain ⟨-, rfl⟩ : k = j ∧ x = w := by simpa using h
      simp
    · exact List.mem_cons_of_mem _ (ih h)

/-- No frame of ingress 6 is placed for the relay queue (R58). -/
theorem Table.place_trunk {t : Table} (ht : t.Lawful trunkIngress) (f : Frame) : (t.place f).target.toRelay = false := by
  refine Bool.eq_false_iff.mpr fun hrelay => ?_
  rw [Target.toRelay_iff] at hrelay
  unfold Table.place at hrelay
  split at hrelay
  · next k w hhit =>
    obtain ⟨j, hj, rfl⟩ := List.getElem_of_mem (firstHit_mem hhit)
    have hw := (ht.1 ⟨j, by simpa using hj⟩).2.2.2 rfl
    rw [show t.windows.get ⟨j, by simpa using hj⟩ = t.windows.toList[j] by simp [Vector.get]] at hw
    exact hrelay.elim hw.1 hw.2
  · exact hrelay.elim (ht.2 rfl).1 (ht.2 rfl).2

theorem State.relayOffer_queue (s : State) (i : IngressNo) (n : SlotNo) :
    (s.relayOffer i n).1.relay.queue = if (s.relayOffer i n).2 then s.relay.queue ++ [n] else s.relay.queue := by
  unfold State.relayOffer
  split <;> rfl

theorem State.deliveryOffer_slots (s : State) (i : IngressNo) (n : SlotNo) :
    (s.deliveryOffer i n).1.delivery.queue.map DeliveryEntry.slot =
      if (s.deliveryOffer i n).2 then s.delivery.queue.map DeliveryEntry.slot ++ [n]
      else s.delivery.queue.map DeliveryEntry.slot := by
  unfold State.deliveryOffer
  split <;> simp

theorem FlightFits.append {entries : Vector HostEntry Config.entryCount} {relay : Relay} {c : Option Candidate}
    (h : FlightFits entries relay c) (n : SlotNo) : FlightFits entries (relay.append n) c := by
  refine ⟨h.entry, fun _ => by simp [Relay.append], ?_, ?_⟩
  all_goals
    simp only [Relay.append, Relay.headRecord]
    split
    · simp [HeadRecord.fresh]
  · exact h.flush
  · exact h.attempts

theorem State.Steady.relayOffer (h : s.Steady v) (hbusy : ¬ v.idle) (i : IngressNo) (n : SlotNo) :
    (s.relayOffer i n).1.Steady v := by
  unfold State.relayOffer
  split
  · refine { h with head := ?_, flight := h.flight.append n, quiet := fun hi => absurd hi hbusy }
    have hexact : s.relay.head.isSome = !s.relay.queue.isEmpty := h.head
    cases hq : s.relay.queue <;> simp [State.HeadExact, Relay.append, hq] at hexact ⊢
    exact hexact
  · exact h.countDrop i .relayFull

theorem State.Steady.deliveryOffer (h : s.Steady v) (i : IngressNo) (n : SlotNo) : (s.deliveryOffer i n).1.Steady v := by
  unfold State.deliveryOffer
  split
  · exact { h with delivery := h.delivery.append n s.delivery.nextNumber, session := h.session }
  · exact h.countDrop i .deliveryFull

/-- The record of a frame that the tables of an ingress have placed (R71). -/
def SlotRecord.placedBy (record : SlotRecord) (g : Ingress) (f : Frame) : SlotRecord :=
  { record with
    tagOut := (g.active.place f).tagOut
    classified := some ⟨g.generation, (g.active.place f).windowIndex⟩ }

/-- Whether classification offers a frame to a queue, and whether the queue took it. -/
theorem State.classify_eq (s : State) (i : IngressNo) (n : SlotNo) (f : Frame) (record : SlotRecord) (hbusy : ¬ v.idle)
    (h : s.Steady v) :
    ∃ (t : State) (relayed delivered : Bool),
      t.Steady v ∧ t.store = s.store ∧ t.entries = s.entries ∧
      t.relay.queue = (if relayed then s.relay.queue ++ [n] else s.relay.queue) ∧
      t.delivery.queue.map DeliveryEntry.slot = (if delivered then s.delivery.queue.map DeliveryEntry.slot ++ [n]
        else s.delivery.queue.map DeliveryEntry.slot) ∧
      (relayed = true → ((s.ingress i).active.place f).target.toRelay = true) ∧
      s.classify i n f record = { t with
        store := t.store.settle i n (record.placedBy (s.ingress i) f) { relay := relayed, delivery := delivered } } := by
  obtain ⟨offered, hoffered⟩ : ∃ offered, offered =
    if ((s.ingress i).active.place f).target.toRelay then s.relayOffer i n else (s, false) := ⟨_, rfl⟩
  obtain ⟨delivered, hdelivered⟩ : ∃ delivered, delivered =
    if ((s.ingress i).active.place f).target.toHost then offered.1.deliveryOffer i n else (offered.1, false) := ⟨_, rfl⟩
  have h1 : offered.1.Steady v ∧ offered.1.store = s.store ∧ offered.1.entries = s.entries ∧
      offered.1.delivery = s.delivery ∧
      offered.1.relay.queue = (if offered.2 then s.relay.queue ++ [n] else s.relay.queue) ∧
      (offered.2 = true → ((s.ingress i).active.place f).target.toRelay = true) := by
    subst hoffered
    split
    · next hr => exact ⟨h.relayOffer hbusy i n, by simp, by simp, by simp, s.relayOffer_queue i n, fun _ => hr⟩
    · exact ⟨h, rfl, rfl, rfl, rfl, by simp⟩
  obtain ⟨hsteady, hstore, hentries, hdelivery, hqueue, htarget⟩ := h1
  have h2 : delivered.1.Steady v ∧ delivered.1.store = s.store ∧ delivered.1.entries = s.entries ∧
      delivered.1.relay = offered.1.relay ∧
      delivered.1.delivery.queue.map DeliveryEntry.slot = (if delivered.2 then
        s.delivery.queue.map DeliveryEntry.slot ++ [n] else s.delivery.queue.map DeliveryEntry.slot) := by
    subst hdelivered
    split
    · refine ⟨hsteady.deliveryOffer i n, by simp [hstore], by simp [hentries], by simp, ?_⟩
      rw [State.deliveryOffer_slots, hdelivery]
    · exact ⟨hsteady, hstore, hentries, rfl, by rw [hdelivery]; rfl⟩
  obtain ⟨hsteady', hstore', hentries', hrelay, hslots⟩ := h2
  refine ⟨if ((s.ingress i).active.place f).target = .drop then delivered.1.countWindowDrop i else delivered.1,
    offered.2, delivered.2, ?_, ?_, ?_, ?_, ?_, htarget, ?_⟩
  · split
    · exact hsteady'.countWindowDrop i
    · exact hsteady'
  · split <;> simp [hstore']
  · split <;> simp [hentries']
  · split <;> simp [hrelay, hqueue]
  · split <;> simp [hslots]
  · subst hdelivered hoffered
    rfl

/-- A stored valid frame is classified, and its slot settled (R26, R70 to R76). -/
theorem State.Kept.classify (h : s.Kept v) (hbusy : ¬ v.idle) {i : IngressNo} {n : SlotNo} (hn : v.filling i = some n)
    (f : Frame) {record : SlotRecord} (hvalid : record.frameOut.valid = true) (hseq : record.seq.isSome = true) :
    (s.classify i n f record).Kept (v.fill i none) := by
  obtain ⟨t, relayed, delivered, ht, hstore, hentries, hqueue, hslots, htarget, heq⟩ :=
    s.classify_eq i n f record hbusy h.steady
  rw [heq]
  refine ⟨{ ht with }, ?_⟩
  change Store.Fits (t.store.settle i n _ _) t.relay.queue (t.delivery.queue.map DeliveryEntry.slot) t.entries _
  rw [hstore, hentries, hqueue, hslots]
  refine h.store.settle hn fun hsome => ?_
  have hsix : i = trunkIngress → relayed = false := by
    rintro rfl
    refine Bool.eq_false_iff.mpr fun hr => ?_
    simpa [Table.place_trunk (h.steady.tables trunkIngress).1 f] using htarget hr
  have hvalid' : Frame.valid ⟨((s.ingress i).active.place f).tagOut, record.kind, record.length, record.payload⟩ = true :=
    hvalid
  simpa [Slot.complete, hsome, SlotRecord.placedBy, SlotRecord.frameOut, hvalid', hseq, imp_iff_not_or] using hsix

/-! ## The end of a frame -/

/-- The frame in progress ends: its slot is settled or freed (R23, R42, R43, R115, R116). -/
theorem State.Kept.endFrame (h : s.Kept v) (hbusy : ¬ v.idle) {i : IngressNo} {p : InProgress}
    (hp : v.filling i = p.slotNo) {verdict : Verdict} (hvalid : ∀ f, verdict = .valid f → f.valid = true) :
    (s.endFrame i p verdict).Kept (v.fill i none) := by
  have hinvalid (checkFault : Bool) : (s.endInvalidFrame i p checkFault).Kept (v.fill i none) := by
    have hcounted : (s.modIngress i fun g => { g with counters :=
        if checkFault then { g.counters with invalidCheck := g.counters.invalidCheck + 1 }
        else { g.counters with invalidFormat := g.counters.invalidFormat + 1 } }).Kept v :=
      h.modIngress i (h.steady.tables i)
    cases p with
    | stored n stamp => exact ⟨{ hcounted.steady with }, hcounted.store.free hp⟩
    | unstored reason =>
      exact hcounted.fill_none hp
  cases verdict with
  | valid f =>
    have hcounted : (s.modIngress i fun g =>
        { g with nextSeq := g.nextSeq + 1, counters := { g.counters with valid := g.counters.valid + 1 } }).Kept v :=
      h.modIngress i (h.steady.tables i)
    cases p with
    | stored n stamp => exact hcounted.classify hbusy hp f (hvalid f rfl) rfl
    | unstored reason =>
      exact (hcounted.countDrop i reason.dropReason).fill_none hp
  | invalidCheck => exact hinvalid true
  | invalidFormat found => exact hinvalid false

/-! ## SEND -/

theorem Frame.valid_of_send {kindByte lengthByte : Byte} {k : FrameKind} {payload : List Byte} {tag : Tag}
    (hk : FrameKind.ofCode kindByte = some k) (hlen : lengthByte.toNat ≤ 32)
    (hpayload : payload.length = sendPayloadSize kindByte lengthByte) :
    Frame.valid ⟨tag, k, lengthByte.toNat, payload⟩ = true := by
  have hkind : k.code = kindByte := by
    unfold FrameKind.ofCode at hk
    split at hk
    · next h =>
      obtain rfl : FrameKind.data = k := by simpa using hk
      exact h.symm
    · split at hk
      · next h =>
        obtain rfl : FrameKind.query = k := by simpa using hk
        exact h.symm
      · simp at hk
  subst hkind
  cases k with
  | data => simpa [Frame.valid, Config.maxPayload, hlen, sendPayloadSize] using hpayload
  | query =>
    have hnil : payload.length = 0 := hpayload
    simp [Frame.valid, Config.maxPayload, hlen, List.length_eq_zero_iff.mp hnil]

/-- A FREE entry's frame takes the front free slot (R27, R86). -/
theorem State.Kept.placeHostFrame (h : s.Kept v) (hbusy : ¬ v.idle) {e : EntryNo} {n : SlotNo} {rest : List SlotNo}
    {f : Frame} (hn : s.store.freeList = n :: rest) (he : (s.entry e).state = .free) (hf : f.valid = true) :
    (s.placeHostFrame e n rest f).Kept v := by
  have he' : (s.entries.get e).state = .free := he
  have hholds : (s.entries.get e).holdsSlot = false := by simp [HostEntry.holdsSlot, he']
  have hslot : (s.entries.get e).slot = none := by
    have := (h.entry_lawful e).1
    simpa [State.entry, hholds] using this
  have hentries := h.steady.entries.set (e := e) (x := ⟨.pending, some n, 0, false, none⟩)
    (by simp [HostEntry.Lawful, HostEntry.holdsSlot]) (by simp [State.entry, he'])
  refine ⟨{ h.steady with
    entries := hentries
    flight := h.steady.flight.set (by simp [he'])
    quiet := fun hi => absurd hi hbusy }, h.store.place hn hholds hslot rfl rfl ?_⟩
  have hvalid : Frame.valid ⟨f.tag, f.kind, f.length, f.payload⟩ = true := hf
  simp [Slot.complete, Holders.isEmpty, SlotRecord.frameOut, hvalid]

/-! ## The completion of STOP -/

/-- PENDING entries become DONE one after another; the others stay (R188). -/
theorem State.Kept.foldl_entryDone {es : List EntryNo} (hnodup : es.Nodup) (outcome : EntryOutcome) (h : s.Kept v)
    (hes : ∀ e ∈ es, (s.entry e).state = .pending) :
    (es.foldl (fun s e => s.entryDone e outcome) s).Kept v ∧
      ∀ k : EntryNo, ((es.foldl (fun s e => s.entryDone e outcome) s).entry k).state =
        if k ∈ es then .done else (s.entry k).state := by
  induction es generalizing s with
  | nil => exact ⟨h, by simp⟩
  | cons e es ih =>
    obtain ⟨hne, hnodup⟩ := List.nodup_cons.mp hnodup
    have hstate (k : EntryNo) : ((s.entryDone e outcome).entry k).state = if k = e then .done else (s.entry k).state := by
      unfold State.entryDone State.entry
      split
      · next hk => simp [hk, get_set_same]
      · next hk => simp [get_set_other _ _ hk]
    obtain ⟨hkept, hfold⟩ := ih hnodup (h.entryDone_pending (hes e (by simp)) outcome) fun k hk => by
      have hke : k ≠ e := fun heq => hne (heq ▸ hk)
      rw [hstate, if_neg hke]
      exact hes k (by simp [hk])
    refine ⟨hkept, fun k => ?_⟩
    rw [List.foldl_cons, hfold, hstate]
    by_cases hk : k = e <;> simp [hk]

/-- The relay queue is emptied, and its RELAY_ABANDON event stored (R188). -/
def State.relayEmptied (s : State) : State :=
  State.storeEvent { s with
    store := s.store.leaveAll .relay s.relay.queue
    relay := { s.relay with queue := [], head := none } } (.relayStopped s.relay.queue.length)

/-- The PENDING entries are DONE (R188). -/
def State.entriesStopped (s : State) : State := s.pendingEntries.foldl (fun s e => s.entryDone e .stopped) s

theorem State.completeStop_eq (s : State) :
    s.completeStop = ((State.storeEvent
      { s.relayEmptied.entriesStopped with
        relay := { s.relayEmptied.entriesStopped.relay with gate := .opened }, part := .config, stop := none }
      (.partState .config)).answerParked .stop [byteOf s.relay.queue.length, byteOf s.relayEmptied.pendingEntries.length]) :=
  rfl

theorem State.Kept.relayEmptied (h : s.Kept v) (hf : v.flight = none) : s.relayEmptied.Kept v := by
  have hflight := h.steady.flight
  rw [hf] at hflight
  have hcleared := h.cutRelay (c := none) (relay := { s.relay with queue := [], head := none }) (removed := s.relay.queue)
    (by simp) rfl (hflight.of_fresh (by simp) rfl)
  exact (hcleared.of_view (w := v) rfl hf (fun _ => Iff.rfl) id).storeEvent _

/-- With no attempt in flight nothing is left that waits for transmission. -/
theorem State.Kept.entriesStopped (h : s.Kept v) (hf : v.flight = none) (hq : s.relay.queue = []) :
    s.entriesStopped.Kept v ∧ s.entriesStopped.Quiet := by
  obtain ⟨hkept, hstates⟩ := h.foldl_entryDone (List.Nodup.filter _ (by decide)) .stopped
    fun e he => State.mem_pendingEntries.mp he
  refine ⟨hkept, ?_, fun k => ?_⟩
  · rw [State.entriesStopped, State.foldl_entryDone_relay, hq]
  · have hlanded : (s.entry k).state ≠ .inFlight := fun hi => by
      simpa [hf] using (h.steady.flight.entry k).mp hi
    have hk : (s.entriesStopped.entry k).state = if k ∈ s.pendingEntries then .done else (s.entry k).state := hstates k
    split at hk
    · simp [HostEntry.holdsSlot, hk]
    · next hnot =>
      have hpending : (s.entry k).state ≠ .pending := fun hp => hnot (State.mem_pendingEntries.mpr hp)
      simp [HostEntry.holdsSlot, hk, hpending, hlanded]

/-- STOP completes: the relay queue is emptied, PENDING entries become DONE, and the part is idle (R188). -/
theorem State.Kept.completeStop (h : s.Kept v) (hf : v.flight = none) :
    s.completeStop.Kept { v with waits := fun x => v.waits x ∧ x ≠ .stop, idle := True } := by
  obtain ⟨hended, hquiet⟩ := (h.relayEmptied hf).entriesStopped hf rfl
  have hopened := hended.setRelay (relay := { s.relayEmptied.entriesStopped.relay with gate := .opened }) rfl rfl
    ⟨hended.steady.flight.entry, hended.steady.flight.head, hended.steady.flight.flush, hended.steady.flight.attempts⟩
  have hidle := hopened.become_idle (idle := True) fun _ => hquiet
  rw [State.completeStop_eq]
  exact ((hidle.outer .config none _ _).storeEvent (.partState .config)).answerParked .stop _

/-- A reply kept as overtaken is a STOP's, before a RESET that waits (R194). -/
theorem State.Kept.markOvertaken (h : s.Kept v) (hlast : ∀ x ∈ s.line.replies.getLast?, x.code = 0x04#8) :
    s.markOvertaken.Kept v := by
  rcases s.takeRequest_cases (some .reset) with hnone | ⟨r, rest, hr, hcode, htake⟩
  · simpa [State.markOvertaken, hnone] using h
  · have hold := h.steady.replies
    rw [State.markOvertaken_ready hr hcode]
    refine h.of_engine (line := s.line) rfl rfl ⟨hold.nodup, hold.waiting, hold.bounded, fun x hx => ⟨hlast x hx, ?_⟩⟩
      h.steady.session
    simp [hr.2.2.2, hcode]

/-- The reply of a parked request that completes stands last (R155). -/
theorem State.answerParked_last {subject : ParkedSubject} (hs : subject ∈ s.parkedSubjects) (result : List Byte) :
    ∀ x ∈ (s.answerParked subject result).line.replies.getLast?, x.code = subject.code := by
  rcases s.parked_find subject with ⟨p, -, hp, hfind⟩ | ⟨hnone, -⟩
  · rw [State.answerParked_some result hfind, State.produceReply_replies, List.getLast?_concat]
    rintro x ⟨⟩
    exact hp ▸ rfl
  · exact absurd hs hnone

theorem State.completeStop_last (hs : ParkedSubject.stop ∈ s.parkedSubjects) :
    ∀ x ∈ s.completeStop.line.replies.getLast?, x.code = 0x04#8 := by
  rw [State.completeStop_eq]
  refine State.answerParked_last ?_ _
  change ParkedSubject.stop ∈ s.relayEmptied.entriesStopped.engine.parked.map Parked.subject
  rw [State.entriesStopped, State.foldl_entryDone_engine]
  exact hs

end Sys2Proof.Machine
end

section
/-! SUPPORT. What changes of the taps, the trunk port and the controller keep of the laws: the reports of STOP, the completion of a
detach, and the state after a reset. -/

namespace Sys2Proof.Machine

variable {s t : State} {v : View}

/-! ## The view through a change -/

theorem inProgressAt_tap (s : State) (k : TapNo) : s.inProgressAt (tapIngress k) = (s.tap k).inProgress := by
  have hk : (tapIngress k).val < Config.tapCount := k.isLt
  simp only [State.inProgressAt, dif_pos hk]
  rfl

theorem inProgressAt_trunk (s : State) : s.inProgressAt trunkIngress = s.trunk.inProgress := rfl

/-- An ingress is a tap's or ingress 6. -/
theorem ingress_cases (i : IngressNo) : (∃ k, i = tapIngress k) ∨ i = trunkIngress := by
  revert i
  decide

theorem tapIngress_ne_trunkIngress (k : TapNo) : tapIngress k ≠ trunkIngress := by
  revert k
  decide

theorem tapIngress_inj {k m : TapNo} : tapIngress k = tapIngress m ↔ k = m := Fin.castSucc_inj

/-- The slots of the frames in progress through a change of one tap. -/
theorem State.fillingSlot_modTap (s : State) (k : TapNo) (f : Tap → Tap) :
    (s.modTap k f).fillingSlot =
      Function.update s.fillingSlot (tapIngress k) ((f (s.tap k)).inProgress.bind InProgress.slotNo) := by
  funext i
  rcases ingress_cases i with ⟨m, rfl⟩ | rfl
  · by_cases hm : m = k
    · rw [hm, Function.update_self, State.fillingSlot, inProgressAt_tap, State.tap_modTap_same]
    · rw [Function.update_of_ne (fun h => hm (tapIngress_inj.mp h)), State.fillingSlot, inProgressAt_tap,
        State.tap_modTap_other s f hm, State.fillingSlot, inProgressAt_tap]
  · rw [Function.update_of_ne (tapIngress_ne_trunkIngress k).symm]
    rfl

/-- What is waited for through a change of one tap. -/
theorem State.awaits_modTap (s : State) (k : TapNo) (f : Tap → Tap) (x : ParkedSubject) :
    (s.modTap k f).awaits x ↔ if x = .closeTap k then (f (s.tap k)).parkedClose = true else s.awaits x := by
  cases x with
  | closeTap m =>
    by_cases hm : m = k
    · simp [hm, State.awaits, State.tap_modTap_same]
    · simp [hm, State.awaits, State.tap_modTap_other s f hm]
  | detach => simp [State.awaits]
  | stop => simp [State.awaits]

/-- The slots of the frames in progress through a change of the trunk port. -/
theorem State.fillingSlot_trunk (s : State) (k : Trunk) :
    State.fillingSlot { s with trunk := k } =
      Function.update s.fillingSlot trunkIngress (k.inProgress.bind InProgress.slotNo) := by
  funext i
  rcases ingress_cases i with ⟨m, rfl⟩ | rfl
  · rw [Function.update_of_ne (tapIngress_ne_trunkIngress m), State.fillingSlot, State.fillingSlot, inProgressAt_tap,
      inProgressAt_tap]
    rfl
  · rw [Function.update_self]
    rfl

theorem State.fillingSlot_congr (htaps : t.taps = s.taps) (htrunk : t.trunk = s.trunk) :
    t.fillingSlot = s.fillingSlot := by
  funext i
  rw [State.fillingSlot, State.fillingSlot, State.inProgressAt, State.inProgressAt, htrunk]
  simp only [State.tap, htaps]

theorem State.awaits_congr (hstop : t.stop.isSome = s.stop.isSome) (htaps : t.taps = s.taps) (htrunk : t.trunk = s.trunk)
    (x : ParkedSubject) : t.awaits x ↔ s.awaits x := by
  cases x <;> simp [State.awaits, State.tap, htaps, htrunk, hstop]

/-! ## The laws of this group through a change -/

theorem State.TapsLawful.congr (h : s.TapsLawful) (htaps : t.taps = s.taps) : t.TapsLawful := by
  simpa only [State.TapsLawful, State.tap, htaps] using h

theorem State.HealthJudged.congr (h : s.HealthJudged) (htrunk : t.trunk = s.trunk) : t.HealthJudged := by
  simpa only [State.HealthJudged, htrunk] using h

theorem State.TrunkLawful.congr (h : s.TrunkLawful) (htrunk : t.trunk = s.trunk) : t.TrunkLawful := by
  simpa only [State.TrunkLawful, htrunk] using h

/-- A state with the taps, the port and the controller of a lawful one. -/
theorem State.Ruled.congr (h : s.Ruled) (hpart : t.part = s.part) (hstop : t.stop = s.stop) (htaps : t.taps = s.taps)
    (htrunk : t.trunk = s.trunk) : t.Ruled where
  health := h.health.congr htrunk
  trunk := h.trunk.congr htrunk
  taps := h.taps.congr htaps
  stopping := by
    have := h.stopping
    simpa only [State.StopLawful, State.tap, hpart, hstop, htaps, htrunk] using this
  off := by
    have := h.off
    simpa only [State.tap, hpart, htaps, htrunk] using this

/-- A command that leaves the taps, the port and the controller alone. -/
theorem State.Ruled.sound (h : s.Ruled) (hk : t.Kept s.view) (hpart : t.part = s.part) (hstop : t.stop = s.stop)
    (htaps : t.taps = s.taps) (htrunk : t.trunk = s.trunk) : t.Sound where
  kept := hk.of_view (State.fillingSlot_congr htaps htrunk) (congrArg Trunk.inFlight htrunk)
    (State.awaits_congr (by rw [hstop]) htaps htrunk) fun hi => by
      change t.part = .booting ∨ t.part = .config at hi
      rwa [hpart] at hi
  ruled := h.congr hpart hstop htaps htrunk

/-- There is a stop record in STOPPING alone. -/
theorem State.Ruled.stop_none (h : s.Ruled) (hpart : s.part ≠ .stopping) : s.stop = none := by
  have hiff := h.stopping.1
  cases hs : s.stop with
  | none => rfl
  | some r => exact absurd (hiff.mpr (by simp [hs])) hpart

/-- A tap that is neither OFF nor CLOSING is found in RUN alone. -/
theorem State.Ruled.run_of_tap (h : s.Ruled) {k : TapNo} (hoff : (s.tap k).state ≠ .off) (hclosing : (s.tap k).state ≠ .closing) :
    s.part = .run := by
  cases hp : s.part with
  | run => rfl
  | booting => exact absurd ((h.off (.inl hp)).1 k) hoff
  | config => exact absurd ((h.off (.inr hp)).1 k) hoff
  | stopping =>
    obtain ⟨r, hr⟩ := Option.isSome_iff_exists.mp (h.stopping.1.mp hp)
    have hk := (h.stopping.2 r hr).2.1 k
    split at hk
    · exact absurd hk hclosing
    · exact absurd hk hoff

/-- A tap that is not OFF is found in RUN and STOPPING alone. -/
theorem State.Ruled.busy_of_tap (h : s.Ruled) {k : TapNo} (hoff : (s.tap k).state ≠ .off) : ¬ s.view.idle :=
  fun hi => hoff ((h.off hi).1 k)

/-- So is a trunk port that is not DETACHED. -/
theorem State.Ruled.busy_of_trunk (h : s.Ruled) (hk : s.trunk.state ≠ .detached) : ¬ s.view.idle :=
  fun hi => hk (h.off hi).2

/-- A tap changes: its state in RUN alone. -/
theorem State.Ruled.modTap (h : s.Ruled) {k : TapNo} {f : Tap → Tap} (hl : (f (s.tap k)).Lawful)
    (hs : (f (s.tap k)).state = (s.tap k).state ∨ s.part = .run) : (s.modTap k f).Ruled := by
  have hsame (hrun : s.part ≠ .run) (m : TapNo) : ((s.modTap k f).tap m).state = (s.tap m).state := by
    by_cases hm : m = k
    · rw [hm, State.tap_modTap_same]
      exact hs.resolve_right hrun
    · rw [State.tap_modTap_other s f hm]
  refine ⟨h.health, h.trunk, fun m => ?_, ⟨h.stopping.1, fun r hr => ?_⟩, fun hi => ⟨fun m => ?_, (h.off hi).2⟩⟩
  · by_cases hm : m = k
    · rwa [hm, State.tap_modTap_same]
    · rw [State.tap_modTap_other s f hm]
      exact h.taps m
  · have hrun : s.part ≠ .run := by
      rw [h.stopping.1.mpr (Option.isSome_iff_exists.mpr ⟨r, hr⟩)]
      decide
    obtain ⟨hempty, htaps, hpending⟩ := h.stopping.2 r hr
    exact ⟨hempty, fun m => (hsame hrun m).trans (htaps m), hpending⟩
  · have hrun : s.part ≠ .run := by
      rcases show s.part = .booting ∨ s.part = .config from hi with hp | hp <;> rw [hp] <;> decide
    exact (hsame hrun m).trans ((h.off hi).1 m)

/-! ## The laws of the other group over a changed view -/

/-- A tap changes, while the laws of the other group are kept with its view. -/
theorem State.Kept.view_modTap {w : View} (hk : t.Kept w) {k : TapNo} {f : Tap → Tap}
    (hfilling : w.filling =
      Function.update s.fillingSlot (tapIngress k) ((f (s.tap k)).inProgress.bind InProgress.slotNo))
    (hflight : w.flight = s.trunk.inFlight)
    (hwaits : ∀ x, w.waits x ↔ if x = .closeTap k then (f (s.tap k)).parkedClose = true else s.awaits x)
    (hidle : s.view.idle → w.idle) : t.Kept (s.modTap k f).view :=
  hk.of_view (by rw [hfilling]; exact s.fillingSlot_modTap k f) hflight.symm
    (fun x => (s.awaits_modTap k f x).trans (hwaits x).symm) hidle

/-- The same where the tap keeps its frame in progress and its parked close. -/
theorem State.Kept.view_modTap_same (hk : t.Kept s.view) {k : TapNo} {f : Tap → Tap}
    (hprogress : (f (s.tap k)).inProgress = (s.tap k).inProgress)
    (hparked : (f (s.tap k)).parkedClose = (s.tap k).parkedClose) : t.Kept (s.modTap k f).view := by
  refine hk.view_modTap ?_ rfl (fun x => ?_) id
  · rw [hprogress, ← inProgressAt_tap]
    exact (Function.update_eq_self _ _).symm
  · split
    · next hx => rw [hx, hparked]; rfl
    · rfl

/-- The port changes, while the laws of the other group are kept with its view. -/
theorem State.Kept.view_trunk {w : View} (hk : t.Kept w) {k : Trunk}
    (hfilling : w.filling = Function.update s.fillingSlot trunkIngress (k.inProgress.bind InProgress.slotNo))
    (hflight : w.flight = k.inFlight)
    (hwaits : ∀ x, w.waits x ↔ if x = .detach then k.parkedDetach = true else s.awaits x)
    (hidle : s.view.idle → w.idle) : t.Kept (State.view { s with trunk := k }) := by
  refine hk.of_view (by rw [hfilling]; exact s.fillingSlot_trunk k) hflight.symm (fun x => ?_) hidle
  rw [hwaits]
  change State.awaits _ x ↔ _
  cases x <;> simp [State.awaits, State.tap]

/-- The same where the port keeps its parked DETACH. -/
theorem State.Kept.view_trunk_parked {w : View} (hk : t.Kept w) {k : Trunk}
    (hfilling : w.filling = Function.update s.fillingSlot trunkIngress (k.inProgress.bind InProgress.slotNo))
    (hflight : w.flight = k.inFlight) (hwaits : w.waits = s.awaits) (hparked : k.parkedDetach = s.trunk.parkedDetach)
    (hidle : s.view.idle → w.idle) : t.Kept (State.view { s with trunk := k }) := by
  refine hk.view_trunk hfilling hflight (fun x => ?_) hidle
  rw [hwaits]
  split
  · next hx => rw [hx, hparked]; rfl
  · rfl

/-- The same where the port keeps its frame in progress, its attempt and its parked DETACH. -/
theorem State.Kept.view_trunk_same (hk : t.Kept s.view) {k : Trunk} (hprogress : k.inProgress = s.trunk.inProgress)
    (hflight : k.inFlight = s.trunk.inFlight) (hparked : k.parkedDetach = s.trunk.parkedDetach) :
    t.Kept (State.view { s with trunk := k }) := by
  refine hk.view_trunk_parked ?_ hflight.symm rfl hparked id
  rw [hprogress, ← inProgressAt_trunk]
  exact (Function.update_eq_self _ _).symm

theorem State.Sound.storeEvent (h : s.Sound) (info : EventInfo) : (s.storeEvent info).Sound :=
  h.ruled.sound (h.kept.storeEvent info) rfl rfl rfl rfl

/-! ## Reports -/

/-- The taps and the port stand as a stop record says (R186, R187). -/
structure State.Tracked (s : State) (stop : Option StopRecord) : Prop where
  part : s.part = .stopping ↔ stop.isSome = true
  taps : ∀ r ∈ stop, ∀ k : TapNo, (s.tap k).state = if k ∈ r.taps then .closing else .off
  pending : ∀ r ∈ stop, r.trunk = true → s.trunk.detachPending = true
  detached : ∀ r ∈ stop, r.trunk = false → s.trunk.state = .detached

theorem State.StopLawful.tracked (h : s.StopLawful) : s.Tracked s.stop where
  part := h.1
  taps r hr := (h.2 r hr).2.1
  pending r hr := (h.2 r hr).2.2.1
  detached r hr := (h.2 r hr).2.2.2

/-- The laws a state must keep when it reports to the controller: all but that of the stop record itself. -/
structure State.Reporting (s : State) : Prop where
  kept : s.Kept s.view
  health : s.HealthJudged
  trunk : s.TrunkLawful
  taps : s.TapsLawful
  off : s.part = .booting ∨ s.part = .config → (∀ k : TapNo, (s.tap k).state = .off) ∧ s.trunk.state = .detached

/-- With the port DETACHED no attempt is in flight (R119). -/
theorem State.HealthJudged.not_inFlight (h : s.HealthJudged) (hk : s.trunk.state = .detached) : s.trunk.inFlight = none := by
  have htransmitting := h.2.1
  cases hf : s.trunk.inFlight with
  | none => rfl
  | some c => simp [hf, hk, TrunkState.transmitting] at htransmitting

/-- The last report completes STOP (R188, R194). -/
theorem State.Reporting.completeStop (h : s.Reporting) (hstop : s.stop.isSome = true)
    (htaps : ∀ k : TapNo, (s.tap k).state = .off) (htrunk : s.trunk.state = .detached) :
    s.completeStop.markOvertaken.Sound := by
  have hflight := h.health.not_inFlight htrunk
  have hparked : ParkedSubject.stop ∈ s.parkedSubjects := (h.kept.steady.replies.waiting .stop).mpr hstop
  have hkept := (h.kept.completeStop hflight).markOvertaken (State.completeStop_last hparked)
  have hpart' : s.completeStop.markOvertaken.part = .config := by rw [State.markOvertaken_part, s.completeStop_part]
  have hstop' : s.completeStop.markOvertaken.stop = none := by rw [State.markOvertaken_stop, s.completeStop_stop]
  have htaps' : s.completeStop.markOvertaken.taps = s.taps := by simp
  have htrunk' : s.completeStop.markOvertaken.trunk = s.trunk := by simp
  generalize s.completeStop.markOvertaken = u at *
  refine ⟨hkept.of_view (State.fillingSlot_congr htaps' htrunk') (congrArg Trunk.inFlight htrunk') (fun x => ?_)
    fun _ => trivial, h.health.congr htrunk', h.trunk.congr htrunk', h.taps.congr htaps', ?_, fun _ => ⟨fun k => ?_, ?_⟩⟩
  · change State.awaits _ x ↔ s.awaits x ∧ x ≠ .stop
    cases x <;> simp [State.awaits, State.tap, htaps', htrunk', hstop']
  · simp [State.StopLawful, hpart', hstop']
  · simpa only [State.tap, htaps'] using htaps k
  · rw [htrunk', htrunk]

/-- A report keeps the laws once the taps and the port stand as the struck record says (R187, R188). -/
theorem State.Reporting.report (h : s.Reporting) {strike : StopRecord → StopRecord}
    (htracked : s.Tracked (s.stop.map strike)) : (s.report strike).Sound := by
  cases hs : s.stop with
  | none =>
    rw [State.report_none strike hs]
    rw [hs] at htracked
    exact ⟨h.kept, h.health, h.trunk, h.taps, ⟨by simpa [hs] using htracked.part, by simp [hs]⟩, h.off⟩
  | some record =>
    rw [hs] at htracked
    have hpart : s.part = .stopping := htracked.part.mpr rfl
    have htaps := htracked.taps (strike record) rfl
    cases hempty : (strike record).isEmpty with
    | true =>
      rw [State.report_last strike hs hempty]
      have hnone : (strike record).taps = [] ∧ (strike record).trunk = false := by
        simpa [StopRecord.isEmpty] using hempty
      refine h.completeStop (by simp [hs]) (fun k => ?_) (htracked.detached _ rfl hnone.2)
      simpa [hnone.1] using htaps k
    | false =>
      rw [State.report_left strike hs hempty]
      refine ⟨?_, h.health, h.trunk, h.taps, ⟨by simp [hpart], ?_⟩, h.off⟩
      · refine (h.kept.outer s.part (some (strike record)) s.taps s.trunk).of_view rfl rfl (fun x => ?_) id
        exact State.awaits_congr (s := s) (t := { s with stop := some (strike record) }) (by simp [hs]) rfl rfl x
      · rintro r ⟨⟩
        exact ⟨hempty, htaps, htracked.pending _ rfl, htracked.detached _ rfl⟩

/-! ## The completion of a detach -/

/-- The port as a completed detach leaves it (R124). -/
def Trunk.detached (k : Trunk) : Trunk :=
  { k with
    state := .detached, detachPending := false, parkedDetach := false, history := [], idleCount := 0
    synchronised := false }

/-- A detach is completed: DETACHED, a parked DETACH answered, the arrival reported (R124). -/
theorem State.Kept.completeDetach (h : s.Kept s.view) (htaps : s.TapsLawful) (hflight : s.trunk.inFlight = none)
    (hprogress : s.trunk.inProgress = none)
    (hoff : s.part = .booting ∨ s.part = .config → ∀ k : TapNo, (s.tap k).state = .off)
    (hpart : s.part = .stopping ↔ s.stop.isSome = true)
    (hstop : ∀ r ∈ s.stop, ∀ k : TapNo, (s.tap k).state = if k ∈ r.taps then .closing else .off) :
    s.completeDetach.Sound := by
  let stored : State := State.storeEvent { s with trunk := s.trunk.detached } (.trunkState .detached 0)
  let answered : State :=
    if s.trunk.parkedDetach then stored.answerParked .detach stored.detachResult else stored
  have heq : s.completeDetach = answered.reportTrunk := rfl
  have hkept : answered.Kept { s.view with waits := fun x => s.awaits x ∧ x ≠ .detach } := by
    have hstored : stored.Kept s.view := (h.outer s.part s.stop s.taps s.trunk.detached).storeEvent _
    simp only [answered]
    split
    · exact hstored.answerParked .detach _
    · next hnot => exact hstored.waits_and_ne hnot
  have hsame : answered.part = s.part ∧ answered.stop = s.stop ∧ answered.taps = s.taps ∧
      answered.trunk = s.trunk.detached := by
    simp only [answered]
    split <;> simp [stored]
  obtain ⟨hpart', hstop', htaps', htrunk'⟩ := hsame
  have htap (k : TapNo) : answered.tap k = s.tap k := by simp only [State.tap, htaps']
  rw [heq]
  refine State.Reporting.report ⟨hkept.of_view ?_ ?_ (fun x => ?_) fun hi => ?_, ?_, ?_, htaps.congr htaps',
    fun hi => ⟨fun k => ?_, ?_⟩⟩ ⟨?_, fun r hr k => ?_, fun r hr htrue => ?_, fun _ _ _ => ?_⟩
  · refine (State.fillingSlot_congr (s := { s with trunk := s.trunk.detached }) htaps' htrunk').trans ?_
    refine (s.fillingSlot_trunk s.trunk.detached).trans ?_
    rw [show s.trunk.detached.inProgress = s.inProgressAt trunkIngress from rfl]
    exact Function.update_eq_self _ _
  · change answered.trunk.inFlight = _
    rw [htrunk']
    rfl
  · change answered.awaits x ↔ s.awaits x ∧ x ≠ .detach
    cases x <;> simp [State.awaits, htap, htrunk', hstop', Trunk.detached]
  · change answered.part = .booting ∨ answered.part = .config at hi
    rwa [hpart'] at hi
  · simp [State.HealthJudged, htrunk', Trunk.detached, hflight]
  · simp [State.TrunkLawful, htrunk', Trunk.detached, hflight, hprogress]
  · rw [hpart'] at hi
    rw [htap]
    exact hoff hi k
  · rw [htrunk']
    rfl
  · rw [hpart', hstop', Option.isSome_map]
    exact hpart
  · obtain ⟨r', hr', rfl⟩ := Option.map_eq_some_iff.mp hr
    rw [htap]
    exact hstop r' (hstop' ▸ hr') k
  · obtain ⟨r', -, rfl⟩ := Option.map_eq_some_iff.mp hr
    simp at htrue
  · rw [htrunk']
    rfl

/-- The laws of the port but that a detach is pending only over an attempt or a frame in progress. -/
structure State.PortLawful (s : State) : Prop where
  detached : s.trunk.state = .detached →
    s.trunk.inProgress = none ∧ s.trunk.synchronised = false ∧ s.trunk.detachPending = false
  apart : s.trunk.inFlight.isSome → s.trunk.inProgress = none
  unsynchronised : s.trunk.inProgress.isSome → s.trunk.synchronised = false
  parked : s.trunk.parkedDetach = true → s.trunk.detachPending = true
  idle : s.trunk.idleCount = 12 → s.trunk.synchronised = true ∧ s.trunk.inFlight = none ∧ s.trunk.inProgress = none
  count : s.trunk.idleCount ≤ 12

/-- The last step of every event that can free a pending detach of what it waits for (R124). -/
theorem State.Kept.detachIfIdle (h : s.Kept s.view) (hhealth : s.HealthJudged) (hport : s.PortLawful)
    (htaps : s.TapsLawful) (hstop : s.StopLawful)
    (hoff : s.part = .booting ∨ s.part = .config → (∀ k : TapNo, (s.tap k).state = .off) ∧ s.trunk.state = .detached) :
    s.detachIfIdle.Sound := by
  unfold State.detachIfIdle
  split
  · next hc =>
    obtain ⟨-, hflight, hprogress⟩ := hc
    exact h.completeDetach htaps hflight hprogress (fun hi => (hoff hi).1) hstop.1 fun r hr => (hstop.2 r hr).2.1
  · next hc =>
    refine ⟨h, hhealth, ⟨hport.detached, fun hd => ?_, hport.apart, hport.unsynchronised, hport.parked, hport.idle,
      hport.count⟩, htaps, hstop, hoff⟩
    cases hf : s.trunk.inFlight with
    | some c => exact .inl rfl
    | none =>
      cases hp : s.trunk.inProgress with
      | some p => exact .inr rfl
      | none => exact absurd ⟨hd, hf, hp⟩ hc

/-! ## The state after a reset -/

/-- A store in which every slot is FREE fits empty queues (R32, R33). -/
theorem Store.fits_initial (quota : Vector Nat Config.ingressCount) :
    Store.Fits { Store.initial with quota := quota } [] [] (Vector.replicate _ .initial) fun _ => none := by
  have hslot (n : SlotNo) : Store.slot { Store.initial with quota := quota } n = .free := get_replicate _ n
  have hentry (e : EntryNo) : (Vector.replicate Config.entryCount HostEntry.initial).get e = .initial := get_replicate _ e
  refine ⟨⟨?_, fun n => ?_, fun i => ?_⟩, List.nodup_nil, List.nodup_nil, fun e e' n he => ?_, fun n => ?_, ?_⟩
  · rw [show Store.freeList { Store.initial with quota := quota } = List.finRange 96 from initialFreeList_eq]
    exact List.nodup_finRange 96
  · rw [hslot, show Store.freeList { Store.initial with quota := quota } = List.finRange 96 from initialFreeList_eq]
    simp [List.mem_finRange]
  · have hzero : (Store.initial.slots.toList.countP fun x => decide (x.usedBy = some i)) = 0 :=
      List.countP_eq_zero.mpr fun x hx => by
        have : x = .free := by simpa [Store.initial] using hx
        simp [this, Slot.usedBy]
    exact (get_replicate 0 i).trans hzero.symm
  · rw [hentry] at he
    simp [HostEntry.initial] at he
  · rw [hslot]
    refine ⟨by simp [Slot.holders], by simp [Slot.holders], ?_, by simp [Slot.holders], by simp [Slot.ofHost], rfl, by simp⟩
    simp [HostEntry.initial, Slot.ofHost]
  · have hlength : initialFreeList.length = 96 := by rw [initialFreeList_eq, List.length_finRange]
    change 8 ≤ initialFreeList.length + _
    omega

/-- The blocks a reset leaves, where the quotas, the tables and the relay settings are those given (R183, R192). -/
structure State.Fresh (s : State) : Prop where
  part : s.part = .booting
  stop : s.stop = none
  store : ∃ quota, s.store = { Store.initial with quota := quota }
  taps : s.taps = Vector.replicate _ .initial
  trunk : s.trunk = .initial
  queue : s.relay.queue = []
  head : s.relay.head = none
  entries : s.entries = Vector.replicate _ .initial
  delivery : s.delivery = .initial
  events : s.events = .initial
  txDone : s.txDone = []
  line : ∃ rate, s.line = .initial rate
  engine : s.engine = .initial
  tables : s.TablesLawful

theorem State.Fresh.sound (h : s.Fresh) : s.Sound := by
  obtain ⟨rate, hline⟩ := h.line
  obtain ⟨quota, hstore⟩ := h.store
  have htap (k : TapNo) : s.tap k = .initial := by
    rw [State.tap, h.taps]
    exact get_replicate _ k
  have hentry (e : EntryNo) : s.entry e = .initial := by
    rw [State.entry, h.entries]
    exact get_replicate _ e
  have hentry' (e : EntryNo) : s.entries.get e = .initial := hentry e
  have hhead : s.relay.headRecord = .fresh := by simp [Relay.headRecord, h.head]
  have hfilling : s.view.filling = fun _ => none := by
    funext i
    change s.fillingSlot i = none
    rcases ingress_cases i with ⟨k, rfl⟩ | rfl
    · rw [State.fillingSlot, inProgressAt_tap, htap]
      rfl
    · rw [State.fillingSlot, inProgressAt_trunk, h.trunk]
      rfl
  refine ⟨⟨?_, ?_⟩, ?_⟩
  · refine ⟨h.tables, by simp [State.EventNumbersConsecutive, h.events, EventQueue.initial],
      by simp [State.HeadExact, h.head, h.queue], ⟨fun e => ?_, by simp [h.txDone], fun e => ?_⟩,
      ⟨fun e => ?_, ?_, ?_, ?_⟩, ?_, ⟨?_, fun x => ?_, ?_, ?_⟩, ?_, ?_, fun _ => ⟨h.queue, fun e => ?_⟩⟩
    · rw [hentry]
      decide
    · simp [hentry, HostEntry.initial, h.txDone]
    · simp [hentry', State.view, h.trunk, Trunk.initial, HostEntry.initial]
    · simp [State.view, h.trunk, Trunk.initial]
    · simp [hhead, HeadRecord.fresh]
    · simp [hhead, HeadRecord.fresh]
    · simp [h.delivery, Delivery.initial, CapturesOrdered, State.sends, hline, HostLine.initial]
    · simp [h.engine, Engine.initial]
    · cases x <;> simp [h.engine, Engine.initial, State.view, State.awaits, htap, Tap.initial, h.trunk, Trunk.initial, h.stop]
    · simp [h.engine, Engine.initial, hline, HostLine.initial]
    · simp [h.engine, Engine.initial]
    · simp [State.SessionLawful, h.engine, Engine.initial, h.delivery, Delivery.initial]
    · rw [hline]
      exact Hunter.initial_lawful
    · rw [hentry]
      rfl
  · rw [State.StoreFits, hstore, h.queue, h.delivery, h.entries, hfilling]
    exact Store.fits_initial quota
  · refine ⟨?_, ?_, fun k => ?_, ?_, fun _ => ⟨fun k => ?_, ?_⟩⟩
    · simp [State.HealthJudged, h.trunk, Trunk.initial]
    · simp [State.TrunkLawful, h.trunk, Trunk.initial]
    · rw [htap]
      decide
    · simp [State.StopLawful, h.part, h.stop]
    · rw [htap]
      rfl
    · rw [h.trunk]
      rfl

theorem Table.initial_lawful (i : IngressNo) : Table.initial.Lawful i := by
  refine ⟨fun k => ?_, fun _ => by decide⟩
  rw [show Table.initial.windows.get k = .cleared from get_replicate _ k]
  refine ⟨by decide, by decide, by decide, fun _ => by decide⟩

theorem State.Fresh.reset (rate : LineRate) (pending : List Instr) :
    State.Fresh { State.reset with line := .initial rate, pending := pending } := by
  refine ⟨rfl, rfl, ⟨_, rfl⟩, rfl, rfl, rfl, rfl, rfl, rfl, rfl, rfl, ⟨rate, rfl⟩, rfl, fun i => ?_⟩
  have hi : State.ingress { State.reset with line := .initial rate, pending := pending } i = .initial := get_replicate _ i
  rw [hi]
  exact ⟨Table.initial_lawful i, Table.initial_lawful i⟩

theorem State.reset_bounds : State.reset.SettingsInRange ∧ State.reset.QueuesBounded := by
  have hquota (i : IngressNo) : State.reset.store.quota.get i = 16 := get_replicate _ i
  refine ⟨⟨fun i => ?_, by decide, by decide⟩, by decide⟩
  rw [hquota]
  decide

/-- Settles O5: the state after reset has the blocks a reset leaves (`State.Fresh`). -/
theorem resetStateIsLawful : Obligations.ResetStateIsLawful :=
  (State.Fresh.reset .bit115200 []).sound.lawful State.reset_bounds.1 State.reset_bounds.2

end Sys2Proof.Machine
end

section
/-! SUPPORT. What each operation keeps of the ranges of the settings and of the capacities of the queues. -/

namespace Sys2Proof.Machine

/-- The ranges of the settings and the capacities of the queues (R18, R103, R166; R82, R164, R174, R153, R156). -/
structure State.Bounded (s : State) : Prop where
  quota : ∀ i : IngressNo, 1 ≤ s.store.quota.get i ∧ s.store.quota.get i ≤ 88
  limit : s.relay.retryLimit ≤ 15
  window : s.delivery.window ≤ 16
  relay : s.relay.queue.length ≤ 64
  delivery : s.delivery.queue.length ≤ 32
  events : s.events.queue.length ≤ 16
  inbox : s.engine.inbox.length ≤ 4
  cache : s.engine.cache.length ≤ 8

theorem State.bounded_iff (s : State) : s.Bounded ↔ s.SettingsInRange ∧ s.QueuesBounded := by
  constructor
  · intro h
    exact ⟨⟨h.quota, h.limit, h.window⟩, h.relay, h.delivery, h.events, h.inbox, h.cache⟩
  · rintro ⟨⟨hquota, hlimit, hwindow⟩, hrelay, hdelivery, hevents, hinbox, hcache⟩
    exact ⟨hquota, hlimit, hwindow, hrelay, hdelivery, hevents, hinbox, hcache⟩

/-! ## Lengths -/

theorem EventQueue.push_length_le {q : EventQueue} (h : q.queue.length ≤ 16) (info : EventInfo) (stamp : Word32) :
    (q.push info stamp).queue.length ≤ 16 := by
  by_cases hroom : q.queue.length < 16
  · rw [EventQueue.push_room info stamp hroom]
    simpa using hroom
  · rw [EventQueue.push_full info stamp (by omega)]
    exact h

theorem insertCache_length_le {cache : List CacheEntry} (h : cache.length ≤ 8) (e : CacheEntry) :
    (insertCache cache e).length ≤ 8 := by
  unfold insertCache
  rw [List.length_append, List.length_singleton]
  split
  · next hsame =>
    obtain ⟨c, hc, hs⟩ := List.any_eq_true.mp hsame
    have : (cache.filter fun c => c.seq != e.seq).length < cache.length :=
      List.length_filter_lt_length_iff_exists.mpr ⟨c, hc, by simpa using hs⟩
    omega
  · split
    · rw [List.length_drop]
      omega
    · next hroom =>
      have : cache.length < 8 := Nat.lt_of_not_le hroom
      omega

theorem startFirstWaiting_length {queue queue' : List DeliveryEntry} {e : DeliveryEntry}
    (h : startFirstWaiting queue = some (e, queue')) : queue'.length = queue.length := by
  obtain ⟨pre, post, rfl, rfl, -, -⟩ := startFirstWaiting_some h
  simp

theorem splitAtSent_length_le {number : Word16} {queue removed left : List DeliveryEntry}
    (h : splitAtSent number queue = some (removed, left)) : left.length ≤ queue.length := by
  obtain ⟨pre, e, -, rfl, -⟩ := splitAtSent_some h
  simp
  omega

theorem Relay.flush_queue_length (k : Relay) (headInFlight : Bool) :
    (k.flush headInFlight).1.queue.length ≤ k.queue.length ∧ (k.flush headInFlight).1.retryLimit = k.retryLimit := by
  cases headInFlight with
  | true => exact ⟨List.length_take_le' 1 k.queue, rfl⟩
  | false => exact ⟨Nat.zero_le _, rfl⟩

/-- STOPPING begins: the stop record names every tap and the port, and the STOP is parked (R186). -/
def State.stopBegun (s : State) (r : Request) : State :=
  (State.storeEvent { s with part := .stopping, stop := some ⟨allTaps, true⟩ } (.partState .stopping)).park r .stop

/-- The taps are closed in order, then the port is detached (R186). -/
def State.allClosed (s : State) : State := (allTaps.foldl State.closeForStop s).detachForStop

theorem State.beginStop_eq (s : State) (r : Request) :
    s.beginStop r = { (s.stopBegun r).allClosed with
      engine := { (s.stopBegun r).allClosed.engine with overtaken := none } } := by
  simp only [State.beginStop, State.stopBegun, State.allClosed]

namespace State.Bounded

variable {s : State}

/-! ## Events, counters, the store -/

theorem storeEvent (h : s.Bounded) (info : EventInfo) : (s.storeEvent info).Bounded :=
  { h with events := EventQueue.push_length_le h.events _ _ }

theorem countDrop (h : s.Bounded) (i : IngressNo) (reason : DropReason) : (s.countDrop i reason).Bounded := by
  refine { h with events := ?_ }
  simp only [State.countDrop]
  split
  · exact h.events
  · exact EventQueue.push_length_le h.events _ _

/-- The taps, the trunk port and the controller change. -/
theorem outer (h : s.Bounded) (part : PartState) (stop : Option StopRecord) (taps : Vector Tap Config.tapCount)
    (trunk : Trunk) : State.Bounded { s with part := part, stop := stop, taps := taps, trunk := trunk } :=
  { h with }

theorem modEntry (h : s.Bounded) (e : EntryNo) (f : HostEntry → HostEntry) : (s.modEntry e f).Bounded := { h with }

/-- The store changes, and keeps its quotas. -/
theorem setStore (h : s.Bounded) {st : Store} (hq : st.quota = s.store.quota) : State.Bounded { s with store := st } :=
  { h with quota := fun i => by rw [show Store.quota st = s.store.quota from hq]; exact h.quota i }

theorem allocate (h : s.Bounded) (i : IngressNo) (stamp : Word32) : (s.allocate i stamp).1.Bounded := by
  rcases s.allocate_cases i stamp with ⟨reason, heq⟩ | ⟨n, st, -, hq, heq⟩
  · rwa [heq]
  · rw [heq]
    exact h.setStore hq

/-! ## The end of a frame -/

theorem relayOffer (h : s.Bounded) (i : IngressNo) (n : SlotNo) : (s.relayOffer i n).1.Bounded := by
  unfold State.relayOffer
  split
  · next hroom =>
    have : s.relay.queue.length < 64 := hroom
    exact { h with relay := by simpa [Relay.append] using this }
  · exact h.countDrop i .relayFull

theorem deliveryOffer (h : s.Bounded) (i : IngressNo) (n : SlotNo) : (s.deliveryOffer i n).1.Bounded := by
  unfold State.deliveryOffer
  split
  · next hroom =>
    have : s.delivery.queue.length < 32 := hroom
    exact { h with delivery := by simpa using this }
  · exact h.countDrop i .deliveryFull

theorem classify (h : s.Bounded) (i : IngressNo) (n : SlotNo) (f : Frame) (record : SlotRecord) :
    (s.classify i n f record).Bounded := by
  have hoffered (offer : Bool) : (if offer then s.relayOffer i n else (s, false)).1.Bounded := by
    cases offer with
    | true => exact h.relayOffer i n
    | false => exact h
  have hdelivered (u : State) (hu : u.Bounded) (offer : Bool) :
      (if offer then u.deliveryOffer i n else (u, false)).1.Bounded := by
    cases offer with
    | true => exact hu.deliveryOffer i n
    | false => exact hu
  have hcounted (u : State) (hu : u.Bounded) (drop : Prop) [Decidable drop] :
      (if drop then u.countWindowDrop i else u).Bounded := by
    split
    · exact { hu with }
    · exact hu
  exact (hcounted _ (hdelivered _ (hoffered _) _) _).setStore (Store.settle_quota ..)

theorem endFrame (h : s.Bounded) (i : IngressNo) (p : InProgress) (verdict : Verdict) :
    (s.endFrame i p verdict).Bounded := by
  have hcounted (f : Ingress → Ingress) : (s.modIngress i f).Bounded := { h with }
  have hinvalid (checkFault : Bool) : (s.endInvalidFrame i p checkFault).Bounded := by
    cases p with
    | stored n stamp => exact (hcounted _).setStore (Store.free_quota ..)
    | unstored reason => exact { h with }
  cases verdict with
  | valid f =>
    cases p with
    | stored n stamp => exact (hcounted _).classify i n f _
    | unstored reason => exact (hcounted _).countDrop i _
  | invalidCheck => exact hinvalid true
  | invalidFormat found => exact hinvalid false

/-! ## Requests and replies -/

theorem produceReply (h : s.Bounded) (check : Word16) (r : Reply) (current : Bool) :
    (s.produceReply check r current).Bounded := by
  unfold State.produceReply
  split
  · exact { h with cache := insertCache_length_le h.cache _ }
  · exact { h with }

theorem answer (h : s.Bounded) (r : Request) (x : Status) (d : Byte) (result : List Byte) :
    (s.answer r x d result).Bounded :=
  h.produceReply _ _ _

theorem refuse (h : s.Bounded) (r : Request) (x : Status) (d : Byte) : (s.refuse r x d).Bounded := h.answer r x d []

theorem afterCheck {α : Type} {check : Except Refused α} {go : α → State} (h : s.Bounded) (r : Request)
    (hgo : ∀ a, check = .ok a → (go a).Bounded) : (s.afterCheck r check go).Bounded := by
  unfold State.afterCheck
  split
  · exact h.refuse r _ _
  · exact hgo _ rfl

theorem park (h : s.Bounded) (r : Request) (subject : ParkedSubject) : (s.park r subject).Bounded := { h with }

theorem answerParked (h : s.Bounded) (subject : ParkedSubject) (result : List Byte) :
    (s.answerParked subject result).Bounded := by
  unfold State.answerParked
  split
  · exact h
  · have hleft (parked : List Parked) : State.Bounded { s with engine := { s.engine with parked := parked } } :=
      { h with }
    exact (hleft _).produceReply _ _ _

theorem taken {r : Request} {rest : List Request} (h : s.Bounded) (hr : s.Ready r rest) : (s.taken rest).Bounded := by
  refine { h with inbox := ?_ }
  have := h.inbox
  rw [hr.2.2.2, List.length_cons] at this
  exact Nat.le_of_succ_le this

/-- A request is taken and executed, or none is (R153). -/
theorem serve (h : s.Bounded) {code : Option RequestCode} {act : Request → State → State}
    (hact : ∀ (r : Request) (u : State), u.Bounded → (act r u).Bounded) : (s.serve code act).Bounded :=
  State.serve_cases h fun r _ hr _ => hact r _ (h.taken hr)

theorem arrive (h : s.Bounded) (r : Request) : (s.arrive r).Bounded := by
  have hreply (x : Reply) : (s.replyAtArrival x).Bounded := by
    unfold State.replyAtArrival
    split
    · exact { h with }
    · exact h
  unfold State.arrive
  split
  · exact h
  split
  · exact hreply _
  split
  · exact hreply _
  split
  · exact hreply _
  next hroom =>
  have : s.engine.inbox.length < 4 := Nat.lt_of_not_le hroom
  exact { h with inbox := by simpa using this }

theorem takeHunt (h : s.Bounded) (r : HunterRun) : (s.takeHunt r).Bounded := by
  have hfold (rs : List Request) (u : State) (hu : u.Bounded) : (rs.foldl State.arrive u).Bounded := by
    induction rs generalizing u with
    | nil => exact hu
    | cons q qs ih => exact ih _ (hu.arrive q)
  exact hfold r.accepted _ { h with }

theorem endSession (h : s.Bounded) : s.endSession.Bounded :=
  { h with
    window := Nat.zero_le _
    delivery := by simpa [State.endSession] using h.delivery
    inbox := Nat.zero_le _
    cache := Nat.zero_le _ }

theorem runHello (h : s.Bounded) (r : Request) : (s.runHello r).Bounded := by
  have hended : (if s.engine.session = .opened then s.endSession else s).Bounded := by
    split
    · exact h.endSession
    · exact h
  have hopened : s.sessionOpened.Bounded := { hended with window := Nat.zero_le _, cache := Nat.zero_le _ }
  rw [State.runHello_eq]
  exact hopened.answer r .ok 0 _

/-! ## Entries, the relay queue and the delivery queue -/

theorem entryDone (h : s.Bounded) (e : EntryNo) (outcome : EntryOutcome) : (s.entryDone e outcome).Bounded := by
  have hstore : (s.entryDone e outcome).store.quota = s.store.quota := by
    cases hslot : (s.entry e).slot with
    | none => simp [State.entryDone, hslot]
    | some n => simp [State.entryDone, hslot, Store.leave_quota]
  exact { h.setStore hstore with }

theorem removeHead (h : s.Bounded) : s.removeHead.Bounded := by
  unfold State.removeHead
  split
  · exact h
  · exact { h with
      quota := by simpa only [Store.leave_quota] using h.quota
      relay := Nat.le_trans (by simp [Relay.dropHead]) h.relay }

theorem abandonHead (h : s.Bounded) (reason : AbandonReason) : (s.abandonHead reason).Bounded := by
  unfold State.abandonHead
  split
  · exact h
  · exact (h.storeEvent _).removeHead

/-- The relay block changes while its queue grows no longer; a holder leaves slots. -/
theorem cutRelay (h : s.Bounded) {relay : Relay} (hlimit : relay.retryLimit = s.relay.retryLimit)
    (hqueue : relay.queue.length ≤ s.relay.queue.length) (removed : List SlotNo) :
    State.Bounded { s with relay := relay, store := s.store.leaveAll .relay removed } :=
  { h with
    quota := by simpa only [Store.leaveAll_quota] using h.quota
    limit := by rw [show relay.retryLimit = _ from hlimit]; exact h.limit
    relay := Nat.le_trans hqueue h.relay }

/-- The delivery queue grows no longer; a holder leaves slots. -/
theorem cutDelivery (h : s.Bounded) {queue : List DeliveryEntry} (hqueue : queue.length ≤ s.delivery.queue.length)
    (removed : List SlotNo) :
    State.Bounded { s with
      delivery := { s.delivery with queue := queue }, store := s.store.leaveAll .delivery removed } :=
  { h with
    quota := by simpa only [Store.leaveAll_quota] using h.quota
    delivery := Nat.le_trans hqueue h.delivery }

theorem startNotice (h : s.Bounded) : s.startNotice.Bounded := by
  unfold State.startNotice
  split
  · exact { h with }
  · exact { h with }
  unfold State.startCapture
  split
  · split
    · exact h
    · next hstart => exact { h with delivery := by simpa [State.transmit, startFirstWaiting_length hstart] using h.delivery }
  · exact h

/-! ## Reports and the completion of a detach -/

theorem completeStop (h : s.Bounded) : s.completeStop.Bounded := by
  have hemptied : s.relayEmptied.Bounded :=
    State.Bounded.storeEvent (h.cutRelay (relay := { s.relay with queue := [], head := none }) rfl (Nat.zero_le _) _) _
  have hfold (es : List EntryNo) (u : State) (hu : u.Bounded) : (es.foldl (fun s e => s.entryDone e .stopped) u).Bounded := by
    induction es generalizing u with
    | nil => exact hu
    | cons e es ih => exact ih _ (hu.entryDone e .stopped)
  have hstopped : s.relayEmptied.entriesStopped.Bounded := hfold _ _ hemptied
  rw [State.completeStop_eq]
  have hidle : State.Bounded { s.relayEmptied.entriesStopped with
      relay := { s.relayEmptied.entriesStopped.relay with gate := .opened }, part := .config, stop := none } :=
    { hstopped with }
  exact (hidle.storeEvent _).answerParked .stop _

theorem report (h : s.Bounded) (strike : StopRecord → StopRecord) : (s.report strike).Bounded := by
  unfold State.report
  split
  · exact h
  split
  · have hcompleted := h.completeStop
    unfold State.markOvertaken
    split
    · exact { hcompleted with }
    · exact hcompleted
  · exact { h with }

theorem completeDetach (h : s.Bounded) : s.completeDetach.Bounded := by
  have hstored (k : Trunk) : (State.storeEvent { s with trunk := k } (.trunkState .detached 0)).Bounded :=
    (h.outer s.part s.stop s.taps k).storeEvent _
  unfold State.completeDetach
  refine State.Bounded.report ?_ _
  dsimp only
  split
  · exact (hstored _).answerParked .detach _
  · exact hstored _

theorem detachIfIdle (h : s.Bounded) : s.detachIfIdle.Bounded := by
  unfold State.detachIfIdle
  split
  · exact h.completeDetach
  · exact h

/-! ## Taps -/

theorem changeTap (h : s.Bounded) (k : TapNo) (f : Tap → Tap) (change : TapChange) : (s.changeTap k f change).Bounded :=
  (h.outer s.part s.stop _ s.trunk).storeEvent _

theorem listenFrameEnd (h : s.Bounded) (k : TapNo) (verdict : Verdict) : (s.listenFrameEnd k verdict).Bounded := by
  cases verdict with
  | valid f => exact { h with }
  | invalidCheck => exact h.changeTap k _ _
  | invalidFormat found => exact h.changeTap k _ _

theorem closingFrameEnd (h : s.Bounded) (k : TapNo) : (s.closingFrameEnd k).Bounded := by
  unfold State.closingFrameEnd
  refine State.Bounded.report ?_ _
  dsimp only
  split
  · exact (h.changeTap k _ _).answerParked _ _
  · exact h.changeTap k _ _

theorem closeTap (h : s.Bounded) (r : Request) (k : TapNo) : (s.closeTap r k).Bounded := by
  unfold State.closeTap
  split
  · exact h.answer r _ _ _
  · exact (h.changeTap k _ _).park r _
  · split
    · exact h.refuse r _ _
    · exact (h.outer s.part s.stop _ s.trunk).park r _
  · exact ((h.changeTap k _ _).answer r _ _ _).report _

theorem closeForStop (h : s.Bounded) (k : TapNo) : (s.closeForStop k).Bounded := by
  unfold State.closeForStop
  split
  · exact h.report _
  · exact h.changeTap k _ _
  · exact h
  · exact (h.changeTap k _ _).report _

theorem beginStop (h : s.Bounded) (r : Request) : (s.beginStop r).Bounded := by
  have hfold (ks : List TapNo) (u : State) (hu : u.Bounded) : (ks.foldl State.closeForStop u).Bounded := by
    induction ks generalizing u with
    | nil => exact hu
    | cons k ks ih => exact ih _ (hu.closeForStop k)
  have hparked : (s.stopBegun r).Bounded :=
    ((h.outer .stopping (some ⟨allTaps, true⟩) s.taps s.trunk).storeEvent _).park r .stop
  have hdetached (u : State) (hu : u.Bounded) : u.detachForStop.Bounded := by
    unfold State.detachForStop
    split
    · exact hu.report _
    · exact (hu.outer u.part u.stop u.taps _).detachIfIdle
  have hcleared (u : State) (hu : u.Bounded) : State.Bounded { u with engine := { u.engine with overtaken := none } } :=
    { hu with }
  rw [State.beginStop_eq]
  exact hcleared _ (hdetached _ (hfold allTaps _ hparked))

/-! ## Outcomes of an attempt -/

theorem applySent (h : s.Bounded) (c : Candidate) : (s.applySent c).Bounded := by
  cases c with
  | relayHead => exact h.removeHead
  | entry e => exact (h.modEntry e _).entryDone e .sent

theorem applyLost (h : s.Bounded) (c : Candidate) : (s.applyLost c).Bounded := by
  cases c with
  | relayHead =>
    simp only [State.applyLost]
    split
    · exact h.abandonHead _
    · exact h
  | entry e =>
    simp only [State.applyLost]
    split
    · exact h.entryDone e _
    · exact { h with }

theorem applyFault (h : s.Bounded) (c : Candidate) : (s.applyFault c).Bounded := by
  cases c with
  | relayHead =>
    have hraised : s.raiseHeadAttempts.Bounded := { h with }
    simp only [State.applyFault]
    split
    · exact hraised.abandonHead _
    · split
      · exact hraised.abandonHead _
      · exact hraised
  | entry e =>
    have hraised := h.modEntry e fun x => { x with attempts := x.attempts + 1 }
    simp only [State.applyFault]
    split
    · exact hraised.entryDone e _
    · split
      · exact hraised.entryDone e _
      · exact hraised.modEntry e _

/-- The attempt ends, and its outcome is recorded (R94, R120). -/
theorem recordOutcome (h : s.Bounded) (mark : HealthMark) : (s.endAttempt.recordOutcome mark).Bounded := by
  have hevents (changed : Prop) [Decidable changed] (info : EventInfo) :
      (if changed then s.events else s.events.push info s.stamp).queue.length ≤ 16 := by
    split
    · exact h.events
    · exact EventQueue.push_length_le h.events _ _
  exact { h with events := hevents _ _ }

theorem trunkFrameStart (h : s.Bounded) (stamp : Word32) : (s.trunkFrameStart stamp).Bounded :=
  { h.allocate trunkIngress stamp with }

theorem followWinner (h : s.Bounded) : s.endAttempt.followWinner.Bounded := by
  have hended : s.endAttempt.Bounded := { h with }
  unfold State.followWinner
  split
  · exact hended.trunkFrameStart _
  · exact hended

end State.Bounded

end Sys2Proof.Machine
end

section
/-! SUPPORT. What the checks of a request have found where they pass: each need by what it accepts, then the requests' checks in the
order of their definitions. -/

namespace Sys2Proof.Machine

theorem bind_eq_ok {ε α β : Type} {x : Except ε α} {f : α → Except ε β} {b : β} :
    (x >>= f) = .ok b ↔ ∃ a, x = .ok a ∧ f a = .ok b := by
  cases x with
  | ok a => exact ⟨fun h => ⟨a, rfl, h⟩, fun ⟨_, ha, h⟩ => by cases ha; exact h⟩
  | error e => exact ⟨nofun, nofun⟩

theorem pure_eq_ok {ε α : Type} {a b : α} : (pure a : Except ε α) = .ok b ↔ a = b :=
  ⟨fun h => Except.ok.inj h, fun h => congrArg _ h⟩

theorem needField_eq_ok {α : Type} {n : Byte} {o : Option α} {a : α} : needField n o = .ok a ↔ o = some a := by
  cases o <;> simp [needField]

theorem needValue_eq_ok {ok : Bool} {n : Byte} {u : Unit} : needValue ok n = .ok u ↔ ok = true := by
  cases ok <;> simp [needValue]

theorem needState_eq_ok {ok : Bool} {code : Byte} {u : Unit} : needState ok code = .ok u ↔ ok = true := by
  cases ok <;> simp [needState]

theorem needIdle_eq_ok {ok : Bool} {u : Unit} : needIdle ok = .ok u ↔ ok = true := by
  cases ok <;> simp [needIdle]

theorem numberIn_eq_some {lo hi n : Nat} {b : Byte} : numberIn lo hi b = some n ↔ b.toNat = n ∧ lo ≤ n ∧ n ≤ hi := by
  by_cases hb : lo ≤ b.toNat ∧ b.toNat ≤ hi
  · rw [numberIn_of hb.1 hb.2, Option.some.injEq]
    exact ⟨fun h => ⟨h, h ▸ hb⟩, And.left⟩
  · rw [numberIn_none (by omega)]
    refine ⟨nofun, fun ⟨h, hn⟩ => absurd (h ▸ hn) hb⟩

theorem checkSetRelay_ok {b2 b3 : Byte} {limit : Nat} {inDegraded : Bool}
    (h : checkSetRelay b2 b3 = .ok (limit, inDegraded)) : limit ≤ 15 := by
  simp only [checkSetRelay, bind_eq_ok, pure_eq_ok, needField_eq_ok, numberIn_eq_some, Prod.mk.injEq] at h
  obtain ⟨n, ⟨-, -, hn⟩, -, -, rfl, -⟩ := h
  exact hn

theorem State.checkSend_ok {s : State} {b1 kindByte lengthByte : Byte} {e : EntryNo} {kind : FrameKind} {length : Nat}
    (h : s.checkSend b1 kindByte lengthByte = .ok (e, kind, length)) :
    FrameKind.ofCode kindByte = some kind ∧ lengthByte.toNat = length ∧ length ≤ 32 ∧ s.part = .run ∧
      (s.entry e).state = .free := by
  simp only [State.checkSend, bind_eq_ok, pure_eq_ok, needField_eq_ok, needState_eq_ok, needIdle_eq_ok, numberIn_eq_some,
    Prod.mk.injEq, decide_eq_true_eq] at h
  obtain ⟨e', -, k, hk, n, ⟨hlen, -, hn⟩, -, hrun, -, hfree, rfl, rfl, rfl⟩ := h
  exact ⟨hk, hlen, hn, hrun, hfree⟩

theorem State.checkOpenTap_ok {s : State} {b1 : Byte} {t : TapNo} (h : s.checkOpenTap b1 = .ok t) :
    s.part = .run ∧ (s.tap t).state = .off := by
  simp only [State.checkOpenTap, bind_eq_ok, pure_eq_ok, needState_eq_ok, needIdle_eq_ok, decide_eq_true_eq] at h
  obtain ⟨t', -, -, hrun, -, -, -, hoff, rfl⟩ := h
  exact ⟨hrun, hoff⟩

theorem checkSetQuota_ok {b1 b2 : Byte} {i : IngressNo} {quota : Nat} (h : checkSetQuota b1 b2 = .ok (i, quota)) :
    1 ≤ quota ∧ quota ≤ 88 := by
  simp only [checkSetQuota, bind_eq_ok, pure_eq_ok, needField_eq_ok, numberIn_eq_some, Prod.mk.injEq] at h
  obtain ⟨i', -, n, ⟨-, hn⟩, -, rfl⟩ := h
  exact hn

theorem State.checkAttach_ok {s : State} {u : Unit} (h : s.checkAttach = .ok u) :
    s.part = .run ∧ s.trunk.state = .detached := by
  simp only [State.checkAttach, bind_eq_ok, needState_eq_ok, decide_eq_true_eq] at h
  obtain ⟨-, hrun, hdetached⟩ := h
  exact ⟨hrun, hdetached⟩

theorem State.checkResume_ok {s : State} {u : Unit} (h : s.checkResume = .ok u) :
    s.trunk.detachPending = false ∧ s.trunk.state = .suspended := by
  simp only [State.checkResume, bind_eq_ok, needState_eq_ok, needIdle_eq_ok, decide_eq_true_eq] at h
  obtain ⟨-, hpending, hsuspended⟩ := h
  exact ⟨by simpa using hpending, hsuspended⟩

theorem targetAllowed_iff (i : IngressNo) (target : Target) :
    targetAllowed i target = true ↔ (i = 6 → target ≠ .relay ∧ target ≠ .both) := by
  rw [targetAllowed, Bool.or_eq_true, decide_eq_true_eq, Bool.not_eq_true', ← Bool.not_eq_true, Target.toRelay_iff, not_or]
  exact imp_iff_not_or.symm

/-- SET_WINDOW accepts lawful window records alone (R58, R62). -/
theorem checkSetWindow_ok {fields : List Byte} {i : IngressNo} {k : WindowNo} {w : Window}
    (h : checkSetWindow fields = .ok (i, k, w)) : w.Lawful i := by
  unfold checkSetWindow at h
  split at h
  · simp only [bind_eq_ok, pure_eq_ok, needField_eq_ok, needValue_eq_ok, numberIn_eq_some, Prod.mk.injEq] at h
    obtain ⟨i', -, k', -, enabled, -, -, hmatch, kinds, -, longest, ⟨-, -, hlongest⟩, target, -, -, htarget, present, -, -,
      hrewrite, rfl, rfl, rfl⟩ := h
    refine ⟨by simpa [insideMask] using hmatch, ?_, hlongest, (targetAllowed_iff _ _).mp htarget⟩
    cases present with
    | false => simp [rewriteOf]
    | true => simpa [rewriteOf, rewriteFits, insideMask] using hrewrite
  · simp at h

theorem checkSetDefault_ok {b1 b2 : Byte} {i : IngressNo} {target : Target} (h : checkSetDefault b1 b2 = .ok (i, target)) :
    i = 6 → target ≠ .relay ∧ target ≠ .both := by
  simp only [checkSetDefault, bind_eq_ok, pure_eq_ok, needField_eq_ok, needValue_eq_ok, Prod.mk.injEq] at h
  obtain ⟨i', -, target', -, -, hallowed, rfl, rfl⟩ := h
  exact (targetAllowed_iff _ _).mp hallowed

end Sys2Proof.Machine
end

section
/-! SUPPORT. What each command keeps of the ranges of the settings and of the capacities of the queues. -/

namespace Sys2Proof.Machine

/-- What holds of the state a command answers holds after it. -/
theorem of_next {P : State → Prop} {u t : State} (hu : P u) :
    (Host.Outcome.next u : Host.Outcome State Fault Refusal) = .next t → P t := by
  rintro ⟨⟩
  exact hu

namespace State.Bounded

variable {s : State}

/-! ## Requests over settings and tables -/

theorem modIngress (h : s.Bounded) (i : IngressNo) (f : Ingress → Ingress) : (s.modIngress i f).Bounded := { h with }

theorem modIngresses (h : s.Bounded) (f : Ingress → Ingress) : (s.modIngresses f).Bounded := by
  have hfold (is : List IngressNo) (u : State) (hu : u.Bounded) : (is.foldl (fun s i => s.modIngress i f) u).Bounded := by
    induction is generalizing u with
    | nil => exact hu
    | cons i is ih => exact ih _ (hu.modIngress i f)
  exact hfold allIngresses s h

theorem runStatus (h : s.Bounded) (r : Request) : (s.runStatus r).Bounded := by
  unfold State.runStatus
  split
  · refine h.afterCheck r fun i _ => ?_
    cases i with
    | none => exact h.answer r _ _ _
    | some i => exact (h.modIngress i _).answer r _ _ _
  · exact h

theorem runStart (h : s.Bounded) (r : Request) : (s.runStart r).Bounded :=
  h.afterCheck r fun _ _ => ((h.outer .run s.stop s.taps s.trunk).storeEvent _).answer r _ _ _

theorem runStop (h : s.Bounded) (r : Request) : (s.runStop r).Bounded := by
  unfold State.runStop
  split
  · exact h.beginStop r
  · exact h.refuse r _ _
  · exact h.answer r _ _ _
  · exact h.answer r _ _ _

theorem runReset (h : s.Bounded) (r : Request) : (s.runReset r).Bounded := { h.answer r .ok 0 [] with }

theorem runSetTap (h : s.Bounded) (r : Request) : (s.runSetTap r).Bounded := by
  unfold State.runSetTap
  split
  · exact h.afterCheck r fun (t, _, _) _ => (h.modIngress (tapIngress t) _).answer r _ _ _
  · exact h

theorem runOpenTap (h : s.Bounded) (r : Request) : (s.runOpenTap r).Bounded := by
  unfold State.runOpenTap
  split
  · exact h.afterCheck r fun t _ => (h.changeTap t _ _).answer r _ _ _
  · exact h

theorem runCloseTap (h : s.Bounded) (r : Request) : (s.runCloseTap r).Bounded := by
  unfold State.runCloseTap
  split
  · exact h.afterCheck r fun t _ => h.closeTap r t
  · exact h

/-- A quota is replaced by one in range (R30). -/
theorem setQuota (h : s.Bounded) (i : IngressNo) {quota : Nat} (hq : 1 ≤ quota ∧ quota ≤ 88) :
    State.Bounded { s with store := { s.store with quota := s.store.quota.set i quota } } := by
  refine { h with quota := fun j => ?_ }
  change 1 ≤ (s.store.quota.set i quota).get j ∧ (s.store.quota.set i quota).get j ≤ 88
  by_cases hj : j = i
  · rwa [hj, get_set_same]
  · rw [get_set_other _ _ hj]
    exact h.quota j

theorem runSetQuota (h : s.Bounded) (r : Request) : (s.runSetQuota r).Bounded := by
  unfold State.runSetQuota
  split
  · exact h.afterCheck r fun (i, _) hc => (h.setQuota i (checkSetQuota_ok hc)).answer r _ _ _
  · exact h

theorem runSetWindow (h : s.Bounded) (r : Request) : (s.runSetWindow r).Bounded :=
  h.afterCheck r fun (i, _, _) _ => (h.modIngress i _).answer r _ _ _

theorem runSetDefault (h : s.Bounded) (r : Request) : (s.runSetDefault r).Bounded := by
  unfold State.runSetDefault
  split
  · exact h.afterCheck r fun (i, _) _ => (h.modIngress i _).answer r _ _ _
  · exact h

theorem runReadWindow (h : s.Bounded) (r : Request) : (s.runReadWindow r).Bounded := by
  unfold State.runReadWindow
  split
  · exact h.afterCheck r fun _ _ => h.answer r _ _ _
  · exact h

theorem runCommit (h : s.Bounded) (r : Request) : (s.runCommit r).Bounded := by
  unfold State.runCommit
  split
  · refine h.afterCheck r fun i _ => ?_
    cases i with
    | none => exact (h.modIngresses _).answer r _ _ _
    | some i => exact (h.modIngress i _).answer r _ _ _
  · exact h

theorem runDiscardStaged (h : s.Bounded) (r : Request) : (s.runDiscardStaged r).Bounded := by
  unfold State.runDiscardStaged
  split
  · refine h.afterCheck r fun i _ => ?_
    cases i with
    | none => exact (h.modIngresses _).answer r _ _ _
    | some i => exact (h.modIngress i _).answer r _ _ _
  · exact h

/-! ## Requests over the relay queue, the entries, the port and the delivery queue -/

/-- L is set within its range (R104). -/
theorem setLimit (h : s.Bounded) (y : Byte) {limit : Nat} (hl : limit ≤ 15) (inDegraded : Bool) :
    State.Bounded { s with relay :=
      { s.relay with yieldLimit := y, retryLimit := limit, inDegraded := inDegraded } } :=
  { h with limit := hl }

theorem runSetRelay (h : s.Bounded) (r : Request) : (s.runSetRelay r).Bounded := by
  unfold State.runSetRelay
  split
  · exact h.afterCheck r fun (_, inDegraded) hc => (h.setLimit _ (checkSetRelay_ok hc) inDegraded).answer r _ _ _
  · exact h

theorem setGate (h : s.Bounded) (r : Request) (gate : Gate) : (s.setGate r gate).Bounded := by
  have hset : State.Bounded { s with relay := { s.relay with gate := gate } } := { h with }
  exact hset.answer r _ _ _

theorem runFlushRelay (h : s.Bounded) (r : Request) : (s.runFlushRelay r).Bounded := by
  obtain ⟨hqueue, hlimit⟩ := Relay.flush_queue_length s.relay (decide (s.trunk.inFlight = some .relayHead))
  exact (h.cutRelay hlimit hqueue _).answer r _ _ _

theorem sendFrame (h : s.Bounded) (r : Request) (e : EntryNo) (f : Frame) {t : State} :
    s.sendFrame r e f = .next t → t.Bounded := by
  unfold State.sendFrame
  split
  · exact nofun
  · next n rest _ =>
    have hplaced : (s.placeHostFrame e n rest f).Bounded := { h with }
    exact of_next (hplaced.answer r _ _ _)

theorem runSend (h : s.Bounded) (r : Request) {t : State} : s.runSend r = .next t → t.Bounded := by
  unfold State.runSend
  split
  · split
    · exact of_next (h.refuse r _ _)
    · exact h.sendFrame r _ _
  · exact of_next h

theorem runCancel (h : s.Bounded) (r : Request) : (s.runCancel r).Bounded := by
  unfold State.runCancel
  split
  · refine h.afterCheck r fun e _ => ?_
    unfold State.cancelEntry
    split
    · exact (h.entryDone e _).answer r _ _ _
    · exact (h.modEntry e _).answer r _ _ _
    · exact h.refuse r _ _
    · exact h.refuse r _ _
  · exact h

theorem runSetTrunk (h : s.Bounded) (r : Request) : (s.runSetTrunk r).Bounded := by
  unfold State.runSetTrunk
  split
  · exact h.afterCheck r fun (_, _) _ => (h.modIngress trunkIngress _).answer r _ _ _
  · exact h

theorem runAttach (h : s.Bounded) (r : Request) : (s.runAttach r).Bounded :=
  h.afterCheck r fun _ _ => ((h.outer s.part s.stop s.taps _).storeEvent _).answer r _ _ _

theorem runDetach (h : s.Bounded) (r : Request) : (s.runDetach r).Bounded := by
  unfold State.runDetach
  split
  · exact h.answer r _ _ _
  split
  · exact ((h.outer s.part s.stop s.taps _).park r _).detachIfIdle
  split
  · exact h.refuse r _ _
  · exact (h.outer s.part s.stop s.taps _).park r _

theorem runResume (h : s.Bounded) (r : Request) : (s.runResume r).Bounded :=
  h.afterCheck r fun _ _ => ((h.outer s.part s.stop s.taps _).storeEvent _).answer r _ _ _

/-- W is set within its range (R166). -/
theorem setWindow (h : s.Bounded) {window : Nat} (hw : window ≤ 16) :
    State.Bounded { s with delivery := { s.delivery with window := window } } :=
  { h with window := hw }

theorem runGrant (h : s.Bounded) (r : Request) : (s.runGrant r).Bounded := by
  unfold State.runGrant
  split
  · refine h.afterCheck r fun window hc => (h.setWindow ?_).answer r _ _ _
    exact (numberIn_eq_some.mp (needField_eq_ok.mp hc)).2.2
  · exact h

theorem runAck (h : s.Bounded) (r : Request) : (s.runAck r).Bounded := by
  unfold State.runAck
  split
  · refine h.afterCheck r fun (removed, left) hc => (h.cutDelivery ?_ _).answer r _ _ _
    exact splitAtSent_length_le (needField_eq_ok.mp hc)
  · exact h

theorem runResend (h : s.Bounded) (r : Request) : (s.runResend r).Bounded := by
  have hreturned : State.Bounded { s with delivery :=
      { s.delivery with queue := s.delivery.queue.map DeliveryEntry.returned } } :=
    { h with delivery := by simpa using h.delivery }
  exact hreturned.answer r _ _ _

theorem runDiscardCaptures (h : s.Bounded) (r : Request) : (s.runDiscardCaptures r).Bounded :=
  (h.cutDelivery (by simpa using List.length_filter_le _ _) _).answer r _ _ _

/-! ## Resets and completions -/

theorem powerReset (br1 br0 : Bool) (pending : List Instr) :
    State.Bounded { State.reset with line := .initial (strapRate br1 br0), pending := pending } :=
  { State.reset.bounded_iff.mpr State.reset_bounds with }

theorem softReset (h : s.Bounded) (br1 br0 : Bool) : (s.softReset br1 br0).Bounded :=
  { quota := h.quota, limit := h.limit, window := Nat.zero_le _, relay := Nat.zero_le _, delivery := Nat.zero_le _
    events := Nat.zero_le _, inbox := Nat.zero_le _, cache := Nat.zero_le _ }

theorem replyCompleted (h : s.Bounded) (br1 br0 : Bool) {t : State} :
    exec (.replyCompleted br1 br0) s = .next t → t.Bounded := by
  refine of_next ?_
  split
  · split
    · split
      · exact h.softReset br1 br0
      · exact { h with }
    · exact { h with }
  · exact h

theorem captureCompleted (h : s.Bounded) {t : State} : exec .captureCompleted s = .next t → t.Bounded := by
  refine of_next ?_
  split
  · have hcut := h.cutDelivery (queue := (s.delivery.queue.filter fun e => !e.leavesAtCompletion).map DeliveryEntry.completed)
      (by simpa using List.length_filter_le _ _) ((s.delivery.queue.filter DeliveryEntry.leavesAtCompletion).map DeliveryEntry.slot)
    exact { hcut with }
  · exact h

theorem txDoneCompleted (h : s.Bounded) {t : State} : exec .txDoneCompleted s = .next t → t.Bounded := by
  refine of_next ?_
  split
  · split
    · exact { h with }
    · exact { h with }
  · exact h

theorem eventCompleted (h : s.Bounded) {t : State} : exec .eventCompleted s = .next t → t.Bounded := by
  refine of_next ?_
  split
  · exact { h with events := Nat.le_trans (by simp) h.events }
  · exact h

theorem outboundChoice (h : s.Bounded) {t : State} : exec .outboundChoice s = .next t → t.Bounded := by
  refine of_next ?_
  split
  · split
    · exact { h with }
    · split
      · exact h.startNotice
      · exact h
  · exact h

/-! ## Line events -/

theorem ite {u : State} {p : Prop} [Decidable p] (hu : u.Bounded) (h : s.Bounded) : (if p then u else s).Bounded := by
  split
  · exact hu
  · exact h

theorem tapEndOfFrame (h : s.Bounded) (k : TapNo) (bits : List Level) {t : State} :
    exec (.tapEndOfFrame k bits) s = .next t → t.Bounded := by
  refine of_next ?_
  split
  · split
    · exact (h.endFrame _ _ _).listenFrameEnd k _
    · exact (h.endFrame _ _ _).closingFrameEnd k
    · exact h
    · exact h
  · exact h

theorem trunkEndOfFrame (h : s.Bounded) (bits : List Level) {t : State} :
    exec (.trunkEndOfFrame bits) s = .next t → t.Bounded := by
  refine of_next ?_
  split
  · next p verdict _ _ =>
    have hended := h.endFrame trunkIngress p verdict
    exact (hended.outer _ _ _ _).detachIfIdle
  · exact h

theorem transmitOpportunity (h : s.Bounded) {t : State} : exec .transmitOpportunity s = .next t → t.Bounded := by
  refine of_next ?_
  split
  · split
    · exact { h with }
    · exact h
  · exact h

theorem outcomeSent (h : s.Bounded) (read : List Level) {t : State} : exec (.outcomeSent read) s = .next t → t.Bounded := by
  refine of_next ?_
  split
  · exact h
  · next c _ => exact ((h.applySent c).recordOutcome .sent).detachIfIdle.ite h

theorem outcomeLost (h : s.Bounded) (read : List Level) {t : State} : exec (.outcomeLost read) s = .next t → t.Bounded := by
  refine of_next ?_
  split
  · exact h
  · next c _ => exact (h.applyLost c).followWinner.detachIfIdle.ite h

theorem outcomeFault (h : s.Bounded) (read : List Level) {t : State} : exec (.outcomeFault read) s = .next t → t.Bounded := by
  refine of_next ?_
  split
  · exact h
  · next c _ => exact ((h.applyFault c).recordOutcome .fault).detachIfIdle.ite h

theorem lineBreak (h : s.Bounded) {t : State} : exec .lineBreak s = .next t → t.Bounded := by
  refine of_next (h.ite ?_)
  have hdropped : State.Bounded { s with line := { s.line with hunter := .initial } } := { h with }
  exact hdropped.endSession.ite hdropped

/-! ## Every command -/

/-- Every command keeps the ranges and the capacities. -/
theorem exec (h : s.Bounded) {c : Instr} {t : State} : exec c s = .next t → t.Bounded := by
  cases c with
  | powerReset br1 br0 => exact of_next (powerReset br1 br0 s.pending)
  | memoryCheckCompleted correct => exact of_next (((h.outer .config s.stop s.taps s.trunk).storeEvent _).ite h)
  | tapStartOfFrame k =>
    have hallocated := h.allocate (tapIngress k) s.stamp
    exact of_next ((hallocated.outer _ _ _ _).ite h)
  | tapEndOfFrame k bits => exact h.tapEndOfFrame k bits
  | tapIdleGap k => exact of_next ((h.changeTap k _ _).ite h)
  | tapResynchronised k => exact of_next ((h.outer _ _ _ _).ite h)
  | trunkStartOfFrame => exact of_next ((h.trunkFrameStart _).ite h)
  | trunkEndOfFrame bits => exact h.trunkEndOfFrame bits
  | trunkJoinIdleGap => exact of_next (((h.outer s.part s.stop s.taps _).storeEvent _).ite h)
  | trunkReceiverResync => exact of_next ((h.outer _ _ _ _).ite h)
  | transmitOpportunity => exact h.transmitOpportunity
  | outcomeSent read => exact h.outcomeSent read
  | outcomeLost read => exact h.outcomeLost read
  | outcomeFault read => exact h.outcomeFault read
  | framingError => exact of_next (h.ite (h.takeHunt _))
  | badLength len => exact of_next ((h.takeHunt _).ite h)
  | gapExpiry => exact of_next (h.ite (h.takeHunt _))
  | messageReceived low => exact of_next ((h.takeHunt _).ite h)
  | lineBreak => exact h.lineBreak
  | outboundChoice => exact h.outboundChoice
  | replyCompleted br1 br0 => exact h.replyCompleted br1 br0
  | captureCompleted => exact h.captureCompleted
  | txDoneCompleted => exact h.txDoneCompleted
  | eventCompleted => exact h.eventCompleted
  | badRequest => exact of_next (h.serve fun r _ hu => hu.refuse r _ _)
  | hello => exact of_next (h.serve fun r _ hu => hu.runHello r)
  | status => exact of_next (h.serve fun r _ hu => hu.runStatus r)
  | start => exact of_next (h.serve fun r _ hu => hu.runStart r)
  | stop => exact of_next (h.serve fun r _ hu => hu.runStop r)
  | reset => exact of_next (h.serve fun r _ hu => hu.runReset r)
  | setTap => exact of_next (h.serve fun r _ hu => hu.runSetTap r)
  | openTap => exact of_next (h.serve fun r _ hu => hu.runOpenTap r)
  | closeTap => exact of_next (h.serve fun r _ hu => hu.runCloseTap r)
  | setQuota => exact of_next (h.serve fun r _ hu => hu.runSetQuota r)
  | setWindow => exact of_next (h.serve fun r _ hu => hu.runSetWindow r)
  | setDefault => exact of_next (h.serve fun r _ hu => hu.runSetDefault r)
  | readWindow => exact of_next (h.serve fun r _ hu => hu.runReadWindow r)
  | commit => exact of_next (h.serve fun r _ hu => hu.runCommit r)
  | discardStaged => exact of_next (h.serve fun r _ hu => hu.runDiscardStaged r)
  | setRelay => exact of_next (h.serve fun r _ hu => hu.runSetRelay r)
  | holdRelay => exact of_next (h.serve fun r _ hu => hu.setGate r _)
  | releaseRelay => exact of_next (h.serve fun r _ hu => hu.setGate r _)
  | flushRelay => exact of_next (h.serve fun r _ hu => hu.runFlushRelay r)
  | send =>
    rcases s.takeRequest_cases (some .send) with hnone | ⟨r, rest, hr, -, htake⟩
    · simp only [Machine.exec, execSend, hnone]
      exact of_next h
    · simp only [Machine.exec, execSend, htake]
      exact (h.taken hr).runSend r
  | cancel => exact of_next (h.serve fun r _ hu => hu.runCancel r)
  | setTrunk => exact of_next (h.serve fun r _ hu => hu.runSetTrunk r)
  | attach => exact of_next (h.serve fun r _ hu => hu.runAttach r)
  | detach => exact of_next (h.serve fun r _ hu => hu.runDetach r)
  | resume => exact of_next (h.serve fun r _ hu => hu.runResume r)
  | grant => exact of_next (h.serve fun r _ hu => hu.runGrant r)
  | ack => exact of_next (h.serve fun r _ hu => hu.runAck r)
  | resend => exact of_next (h.serve fun r _ hu => hu.runResend r)
  | discardCaptures => exact of_next (h.serve fun r _ hu => hu.runDiscardCaptures r)
  | byteReceived byte => exact of_next (h.ite (h.takeHunt _))

end State.Bounded

/-- Settles O8, command by command (`State.Bounded.exec`). -/
theorem stepKeepsRangesAndCapacities : Obligations.StepKeepsRangesAndCapacities := by
  intro s t hsettings hqueues hstep
  have h : s.Bounded := s.bounded_iff.mpr ⟨hsettings, hqueues⟩
  refine t.bounded_iff.mp ?_
  cases hp : s.pending with
  | nil =>
    rw [step_empty hp] at hstep
    have hticked : s.tick.Bounded := { h with }
    exact of_next hticked hstep
  | cons c rest =>
    have hrest : State.Bounded { s with pending := rest } := { h with }
    rw [step, hp] at hstep
    exact hrest.exec hstep

end Sys2Proof.Machine
end

section
/-! SUPPORT. Which commands can stop, and when. -/

namespace Sys2Proof.Machine

variable {s : State}

theorem exec_answers_of_ne_send {c : Instr} (h : c ≠ .send) (s : State) : ∃ t, exec c s = .next t := by
  cases c with
  | send => exact absurd rfl h
  | _ => exact ⟨_, rfl⟩

/-- A SEND answers a next state, or it is one for a FREE entry in RUN that finds the free list empty (R27). -/
theorem exec_send_cases (s : State) :
    (∃ t, exec .send s = .next t) ∨
      exec .send s = .fault .sendFoundNoSlot ∧ s.part = .run ∧ s.store.freeList = [] ∧
        ∃ e : EntryNo, (s.entry e).state = .free := by
  rcases s.takeRequest_cases (some .send) with hnone | ⟨r, rest, -, -, htake⟩
  · exact .inl ⟨s, by simp only [exec, execSend, hnone]⟩
  · simp only [exec, execSend, htake]
    unfold State.runSend
    split
    · split
      · exact .inl ⟨_, rfl⟩
      · next hc =>
        obtain ⟨-, -, -, hrun, hfree⟩ := State.checkSend_ok hc
        unfold State.sendFrame
        split
        · next hempty => exact .inr ⟨rfl, hrun, hempty, _, hfree⟩
        · exact .inl ⟨_, rfl⟩
    · exact .inl ⟨_, rfl⟩

/-- While a host entry is FREE the reserve leaves a slot for it (R19). -/
theorem State.StoreFits.freeList_ne_nil {filling : IngressNo → Option SlotNo} (h : s.StoreFits filling) {e : EntryNo}
    (he : (s.entry e).state = .free) : s.store.freeList ≠ [] := by
  intro hempty
  have hreserve := h.reserve
  rw [hempty, List.length_nil, Nat.zero_add] at hreserve
  have hall : ∀ x ∈ s.entries.toList, x.holdsSlot = true :=
    List.countP_eq_length.mp (Nat.le_antisymm List.countP_le_length (by simpa using hreserve))
  have hholds := hall (s.entry e) (by simp [State.entry, Vector.get])
  simp [HostEntry.holdsSlot, he] at hholds

/-- Settles O4: only `State.sendFrame` faults, and the reserve keeps it from it. -/
theorem onlySendCouldStop : Obligations.OnlySendCouldStop := by
  intro c s
  by_cases hc : c = .send
  · subst hc
    rcases exec_send_cases s with ⟨t, ht⟩ | ⟨hfault, hrun, hempty, e, hfree⟩
    · exact ⟨by simp [ht], by simp [ht], fun _ => ⟨t, ht⟩⟩
    · exact ⟨by simp [hfault], fun _ _ => ⟨rfl, hrun, hempty, e, hfree⟩,
        fun h => absurd hempty (h.sound.kept.store.freeList_ne_nil hfree)⟩
  · obtain ⟨t, ht⟩ := exec_answers_of_ne_send hc s
    exact ⟨by simp [ht], by simp [ht], fun _ => ⟨t, ht⟩⟩

end Sys2Proof.Machine
end

section
/-! SUPPORT. The requests that leave the taps, the trunk port and the controller alone keep the laws. -/

namespace Sys2Proof.Machine

variable {u : State}

/-- The staged table keeps its law where the new window keeps its own (R58, R63). -/
theorem Ingress.TablesLawful.stageWindow {g : Ingress} {i : IngressNo} (h : g.TablesLawful i) {w : Window} (hw : w.Lawful i)
    (k : WindowNo) : (g.stageWindow k w).TablesLawful i := by
  refine ⟨h.1, fun j => ?_, h.2.2⟩
  change ((g.staged.windows.set k w).get j).Lawful i
  by_cases hj : j = k
  · rwa [hj, get_set_same]
  · rw [get_set_other _ _ hj]
    exact h.2.1 j

theorem State.Room.modIngresses (hroom : u.Room) (f : Ingress → Ingress) : (u.modIngresses f).Room := by
  have hfold (is : List IngressNo) (w : State) (hw : w.Room) : (is.foldl (fun s i => s.modIngress i f) w).Room := by
    induction is generalizing w with
    | nil => exact hw
    | cons i is ih => exact ih _ hw
  exact hfold allIngresses u hroom

/-- The payload of a SEND is as long as its fields say (R195). -/
theorem payload_of_send {b b1 t2 t1 t0 kindByte lengthByte : Byte} {payload : List Byte}
    (h : requestOf (b :: b1 :: t2 :: t1 :: t0 :: kindByte :: lengthByte :: payload) = some .send) :
    payload.length = sendPayloadSize kindByte lengthByte := by
  simp only [requestOf] at h
  cases hcode : RequestCode.ofByte b with
  | none => simp [hcode] at h
  | some k =>
    obtain ⟨hfits, rfl⟩ : k.lengthFits (b1 :: t2 :: t1 :: t0 :: kindByte :: lengthByte :: payload) = true ∧ k = .send := by
      simpa [hcode] using h
    exact eq_of_beq hfits

namespace State.Sound

/-- A request that leaves the taps, the port and the controller alone keeps their laws. -/
theorem next {t : State} (h : u.Sound) (hk : t.Kept u.view) (hpart : t.part = u.part) (hstop : t.stop = u.stop)
    (htaps : t.taps = u.taps) (htrunk : t.trunk = u.trunk) : t.Sound :=
  h.ruled.sound hk hpart hstop htaps htrunk

theorem taken {r : Request} {rest : List Request} (h : u.Sound) (hr : u.Ready r rest)
    (hcode : requestOf r.body ≠ some .reset) : (u.taken rest).Sound :=
  h.next (h.kept.taken hr hcode) rfl rfl rfl rfl

theorem answer (h : u.Sound) (hroom : u.Room) (r : Request) (x : Status) (d : Byte) (result : List Byte) :
    (u.answer r x d result).Sound :=
  h.next (h.kept.answer hroom r x d result) (by simp [State.answer]) (by simp [State.answer]) (by simp [State.answer])
    (by simp [State.answer])

theorem refuse (h : u.Sound) (hroom : u.Room) (r : Request) (x : Status) (d : Byte) : (u.refuse r x d).Sound :=
  h.answer hroom r x d []

theorem afterCheck {α : Type} {check : Except Refused α} {go : α → State} (h : u.Sound) (hroom : u.Room)
    (r : Request) (hgo : ∀ a, check = .ok a → (go a).Sound) : (u.afterCheck r check go).Sound := by
  unfold State.afterCheck
  split
  · exact h.refuse hroom r _ _
  · exact hgo _ rfl

theorem modIngress (h : u.Sound) (i : IngressNo) {f : Ingress → Ingress} (hf : (f (u.ingress i)).TablesLawful i) :
    (u.modIngress i f).Sound :=
  h.next (h.kept.modIngress i hf) rfl rfl rfl rfl

/-- The same change to every ingress, which keeps the law of its tables. -/
theorem modIngresses (h : u.Sound) {f : Ingress → Ingress} (hf : ∀ i g, Ingress.TablesLawful g i → (f g).TablesLawful i) :
    (u.modIngresses f).Sound := by
  have hfold (is : List IngressNo) (w : State) (hw : w.Sound) : (is.foldl (fun s i => s.modIngress i f) w).Sound := by
    induction is generalizing w with
    | nil => exact hw
    | cons i is ih => exact ih _ (hw.modIngress i (hf i _ (hw.kept.steady.tables i)))
  exact hfold allIngresses u h

/-! ## Requests over settings and tables -/

theorem runHello (h : u.Sound) (hroom : u.Room) (r : Request) : (u.runHello r).Sound := by
  have hsame : u.sessionOpened.part = u.part ∧ u.sessionOpened.stop = u.stop ∧ u.sessionOpened.taps = u.taps ∧
      u.sessionOpened.trunk = u.trunk ∧ u.sessionOpened.Room := by
    unfold State.sessionOpened
    split <;> exact ⟨rfl, rfl, rfl, rfl, hroom⟩
  obtain ⟨hpart, hstop, htaps, htrunk, hroom'⟩ := hsame
  rw [State.runHello_eq]
  exact (h.next h.kept.sessionOpened hpart hstop htaps htrunk).answer hroom' r .ok 0 _

theorem runStatus (h : u.Sound) (hroom : u.Room) (r : Request) : (u.runStatus r).Sound := by
  unfold State.runStatus
  split
  · refine h.afterCheck hroom r fun i _ => ?_
    cases i with
    | none => exact h.answer hroom r _ _ _
    | some i =>
      refine State.Sound.answer ?_ (by exact hroom) r _ _ _
      exact h.modIngress i (h.kept.steady.tables i)
  · exact h

theorem runSetTap (h : u.Sound) (hroom : u.Room) (r : Request) : (u.runSetTap r).Sound := by
  unfold State.runSetTap
  split
  · refine h.afterCheck hroom r fun (t, _, _) _ => State.Sound.answer ?_ (by exact hroom) r _ _ _
    exact h.modIngress (tapIngress t) (h.kept.steady.tables _)
  · exact h

/-- The quotas are no part of these laws. -/
theorem setQuota (h : u.Sound) (quota : Vector Nat Config.ingressCount) :
    State.Sound { u with store := { u.store with quota := quota } } := by
  refine h.next ⟨{ h.kept.steady with }, ?_⟩ rfl rfl rfl rfl
  have hstore := h.kept.store
  exact { hstore with
    exact := ⟨hstore.exact.nodup, hstore.exact.mem, hstore.exact.use⟩
    placed := hstore.placed }

theorem runSetQuota (h : u.Sound) (hroom : u.Room) (r : Request) : (u.runSetQuota r).Sound := by
  unfold State.runSetQuota
  split
  · exact h.afterCheck hroom r fun (i, quota) _ => (h.setQuota (u.store.quota.set i quota)).answer hroom r _ _ _
  · exact h

theorem runSetWindow (h : u.Sound) (hroom : u.Room) (r : Request) : (u.runSetWindow r).Sound := by
  refine h.afterCheck hroom r fun (i, k, w) hc => State.Sound.answer ?_ (by exact hroom) r _ _ _
  exact h.modIngress i (Ingress.TablesLawful.stageWindow (h.kept.steady.tables i) (checkSetWindow_ok hc) k)

theorem runSetDefault (h : u.Sound) (hroom : u.Room) (r : Request) : (u.runSetDefault r).Sound := by
  unfold State.runSetDefault
  split
  · refine h.afterCheck hroom r fun (i, _) hc => State.Sound.answer ?_ (by exact hroom) r _ _ _
    obtain ⟨hactive, hwindows, -⟩ := h.kept.steady.tables i
    exact h.modIngress i ⟨hactive, hwindows, checkSetDefault_ok hc⟩
  · exact h

theorem runReadWindow (h : u.Sound) (hroom : u.Room) (r : Request) : (u.runReadWindow r).Sound := by
  unfold State.runReadWindow
  split
  · exact h.afterCheck hroom r fun _ _ => h.answer hroom r _ _ _
  · exact h

theorem runCommit (h : u.Sound) (hroom : u.Room) (r : Request) : (u.runCommit r).Sound := by
  have hcommit (i : IngressNo) (g : Ingress) (hg : g.TablesLawful i) : g.commit.TablesLawful i := ⟨hg.2, hg.2⟩
  unfold State.runCommit
  split
  · refine h.afterCheck hroom r fun i _ => ?_
    cases i with
    | none => exact (h.modIngresses hcommit).answer (hroom.modIngresses _) r _ _ _
    | some i =>
      refine State.Sound.answer ?_ (by exact hroom) r _ _ _
      exact h.modIngress i (hcommit i _ (h.kept.steady.tables i))
  · exact h

theorem runDiscardStaged (h : u.Sound) (hroom : u.Room) (r : Request) : (u.runDiscardStaged r).Sound := by
  have hdiscard (i : IngressNo) (g : Ingress) (hg : g.TablesLawful i) : g.discardStaged.TablesLawful i := ⟨hg.1, hg.1⟩
  unfold State.runDiscardStaged
  split
  · refine h.afterCheck hroom r fun i _ => ?_
    cases i with
    | none => exact (h.modIngresses hdiscard).answer (hroom.modIngresses _) r _ _ _
    | some i =>
      refine State.Sound.answer ?_ (by exact hroom) r _ _ _
      exact h.modIngress i (hdiscard i _ (h.kept.steady.tables i))
  · exact h

theorem runSetTrunk (h : u.Sound) (hroom : u.Room) (r : Request) : (u.runSetTrunk r).Sound := by
  unfold State.runSetTrunk
  split
  · refine h.afterCheck hroom r fun (_, _) _ => State.Sound.answer ?_ (by exact hroom) r _ _ _
    exact h.modIngress trunkIngress (h.kept.steady.tables _)
  · exact h

/-! ## Requests over the relay queue and the host entries -/

/-- The relay settings and the gate are no part of these laws. -/
theorem setRelay (h : u.Sound) {relay : Relay} (hqueue : relay.queue = u.relay.queue) (hhead : relay.head = u.relay.head) :
    State.Sound { u with relay := relay } := by
  have hflight := h.kept.steady.flight
  have hrecord : relay.headRecord = u.relay.headRecord := by rw [Relay.headRecord, hhead]; rfl
  refine h.next (h.kept.setRelay (c := u.view.flight) hqueue (by rw [hhead]) ⟨hflight.entry, ?_, ?_, ?_⟩) rfl rfl rfl rfl
  · rw [hqueue]; exact hflight.head
  · rw [hrecord]; exact hflight.flush
  · rw [hrecord]; exact hflight.attempts

theorem runSetRelay (h : u.Sound) (hroom : u.Room) (r : Request) : (u.runSetRelay r).Sound := by
  unfold State.runSetRelay
  split
  · refine h.afterCheck hroom r fun (_, _) _ => State.Sound.answer ?_ (by exact hroom) r _ _ _
    exact h.setRelay rfl rfl
  · exact h

theorem setGate (h : u.Sound) (hroom : u.Room) (r : Request) (gate : Gate) : (u.setGate r gate).Sound :=
  State.Sound.answer (h.setRelay (relay := { u.relay with gate := gate }) rfl rfl) hroom r _ _ _

theorem runFlushRelay (h : u.Sound) (hroom : u.Room) (r : Request) : (u.runFlushRelay r).Sound := by
  have hhead : decide (u.trunk.inFlight = some .relayHead) = true ↔ u.view.flight = some .relayHead := by
    rw [decide_eq_true_eq]
    rfl
  exact State.Sound.answer (h.next (h.kept.flush hhead) rfl rfl rfl rfl) hroom r _ _ _

theorem sendFrame (h : u.Sound) (hroom : u.Room) (r : Request) {e : EntryNo} {f : Frame} (hrun : u.part = .run)
    (hfree : (u.entry e).state = .free) (hf : f.valid = true) {t : State} : u.sendFrame r e f = .next t → t.Sound := by
  have hbusy : ¬ u.view.idle := by
    rintro (hp | hp) <;> rw [hrun] at hp <;> cases hp
  unfold State.sendFrame
  split
  · exact nofun
  · next n rest hn =>
    have hplaced : (u.placeHostFrame e n rest f).Sound :=
      h.next (h.kept.placeHostFrame hbusy hn hfree hf) rfl rfl rfl rfl
    exact of_next (hplaced.answer hroom r _ _ _)

theorem runSend (h : u.Sound) (hroom : u.Room) {r : Request} (hcode : requestOf r.body = some .send) {t : State} :
    u.runSend r = .next t → t.Sound := by
  unfold State.runSend
  split
  · next hbody =>
    split
    · exact of_next (h.refuse hroom r _ _)
    · next hc =>
      obtain ⟨hkind, rfl, hlength, hrun, hfree⟩ := State.checkSend_ok hc
      rw [hbody] at hcode
      exact h.sendFrame hroom r hrun hfree (Frame.valid_of_send hkind hlength (payload_of_send hcode))
  · exact of_next h

theorem runCancel (h : u.Sound) (hroom : u.Room) (r : Request) : (u.runCancel r).Sound := by
  unfold State.runCancel
  split
  · refine h.afterCheck hroom r fun e _ => ?_
    unfold State.cancelEntry
    split
    · next he => exact (h.next (h.kept.entryDone_pending he .cancelled) rfl rfl rfl rfl).answer hroom r _ _ _
    · next he =>
      obtain ⟨hslot, houtcome, -, -, hmax, hfewer⟩ := h.kept.entry_lawful e
      refine State.Sound.answer (h.next (h.kept.setEntry (e := e) (x := { u.entry e with cancelRequested := true })
        (c := u.view.flight) ⟨hslot, houtcome, ?_, fun _ => he, hmax, hfewer⟩ rfl Iff.rfl
        (h.kept.steady.flight.set Iff.rfl)) rfl rfl rfl rfl) hroom r _ _ _
      simp [he]
    · exact h.refuse hroom r _ _
    · exact h.refuse hroom r _ _
  · exact h

/-! ## Requests over the delivery queue -/

theorem runGrant (h : u.Sound) (hroom : u.Room) (hopened : u.engine.session = .opened) (r : Request) :
    (u.runGrant r).Sound := by
  unfold State.runGrant
  split
  · refine h.afterCheck hroom r fun window _ => ?_
    exact State.Sound.answer (h.next (h.kept.window (window := window) (.inl hopened)) rfl rfl rfl rfl) hroom r _ _ _
  · exact h

theorem runAck (h : u.Sound) (hroom : u.Room) (r : Request) : (u.runAck r).Sound := by
  unfold State.runAck
  split
  · refine h.afterCheck hroom r fun (removed, left) hc => ?_
    obtain ⟨pre, e, rfl, hqueue, he⟩ := splitAtSent_some (needField_eq_ok.mp hc)
    have hordered := h.kept.steady.delivery
    rw [hqueue] at hordered
    refine State.Sound.answer (h.next (h.kept.removeCaptures (removed := pre ++ [e]) (kept := left) ?_ (hordered.acked he))
      rfl rfl rfl rfl) hroom r _ _ _
    simp [hqueue]
  · exact h

theorem runResend (h : u.Sound) (hroom : u.Room) (r : Request) : (u.runResend r).Sound := by
  have hreturned := h.kept.delivery (map_returned_slot u.delivery.queue) (CapturesOrdered.map_returned h.kept.steady.delivery)
  exact State.Sound.answer (h.next hreturned rfl rfl rfl rfl) hroom r _ _ _

theorem runDiscardCaptures (h : u.Sound) (hroom : u.Room) (r : Request) : (u.runDiscardCaptures r).Sound := by
  refine State.Sound.answer (h.next (h.kept.removeCaptures ?_ (CapturesOrdered.discarded h.kept.steady.delivery))
    rfl rfl rfl rfl) hroom r _ _ _
  have hslot : DeliveryEntry.slot ∘ (fun e : DeliveryEntry => { e with mark := .toRemove }) = DeliveryEntry.slot := rfl
  rw [List.map_map, hslot, ← List.map_append]
  have hperm := List.filter_append_perm (fun e : DeliveryEntry => decide (e.state ≠ .sending)) u.delivery.queue
  simpa using (hperm.map DeliveryEntry.slot).symm

end State.Sound

end Sys2Proof.Machine
end

section
/-! SUPPORT. The execution of a request, and the commands of the host line, keep the laws. -/

namespace Sys2Proof.Machine

variable {s t : State} {v : View}

theorem State.Sound.ite {u : State} {p : Prop} [Decidable p] (hu : p → u.Sound) (h : s.Sound) : (if p then u else s).Sound := by
  split
  · next hp => exact hu hp
  · exact h

/-! ## The execution of a request -/

/-- A request other than RESET is taken and executed, or none is (R153). -/
theorem State.Sound.serve (h : s.Sound) {code : Option RequestCode} {act : Request → State → State}
    (hcode : code ≠ some .reset) (hact : ∀ (r : Request) (u : State), u.Sound → u.Room → (act r u).Sound) :
    (s.serve code act).Sound :=
  State.serve_cases h fun r _ hr hc => hact r _ (h.taken hr (hc ▸ hcode)) hr.room

/-- GRANT is executed in an OPEN session alone (R149, R151). -/
theorem State.Sound.grant (h : s.Sound) : (s.serve (some .grant) fun r s => s.runGrant r).Sound := by
  refine State.serve_cases h fun r rest hr hc => (h.taken hr (by rw [hc]; decide)).runGrant hr.room ?_ r
  exact h.kept.steady.session.opened_of_ready hr hc (by decide)

theorem State.Sound.send (h : s.Sound) : exec .send s = .next t → t.Sound := by
  rcases s.takeRequest_cases (some .send) with hnone | ⟨r, rest, hr, hc, htake⟩
  · simp only [exec, execSend, hnone]
    exact of_next h
  · simp only [exec, execSend, htake]
    exact (h.taken hr (by rw [hc]; decide)).runSend hr.room hc

/-- A RESET is executed: no reply stays overtaken (R190, R194). -/
theorem State.Kept.runReset (h : s.Kept v) {r : Request} {rest : List Request} (hr : s.Ready r rest) :
    ((s.taken rest).runReset r).Kept v := by
  obtain ⟨-, -, hroom, hinbox⟩ := hr
  have hold := h.steady.replies
  obtain ⟨hclosed, hopened, hcache⟩ := h.steady.session
  have htaken : (s.taken rest).SessionLawful := by
    refine ⟨fun hs => ?_, hopened, hcache⟩
    obtain ⟨h1, h2, h3⟩ := hclosed hs
    exact ⟨h1, h2, fun q hq => h3 q (by simp [hinbox, hq])⟩
  have hanswered := htaken.produceReply r.check (r.reply .ok 0 []) true
  have hlength : ((s.taken rest).runReset r).line.replies.length = s.line.replies.length + 1 := by
    simp only [State.runReset]
    split <;> simp [sendBack_length, State.answer]
  have heq : (s.taken rest).runReset r =
      { s with engine := ((s.taken rest).runReset r).engine, line := ((s.taken rest).runReset r).line } := by
    unfold State.runReset State.answer
    rw [State.produceReply_same]
  have hparked : ((s.taken rest).runReset r).engine.parked = s.engine.parked := State.produceReply_parked ..
  have hhunter : ((s.taken rest).runReset r).line.hunter = s.line.hunter := State.produceReply_hunter ..
  have hhtx : ((s.taken rest).runReset r).line.htx = s.line.htx := State.produceReply_htx ..
  have hsession : State.SessionLawful { s with engine := ((s.taken rest).runReset r).engine } := by
    rw [State.produceReply_same] at hanswered
    exact hanswered
  rw [heq]
  refine h.of_engine hhunter hhtx ⟨?_, ?_, ?_, ?_⟩ hsession
  · rw [hparked]; exact hold.nodup
  · rw [hparked]; exact hold.waiting
  · rw [hparked, hlength]
    omega
  · exact nofun

theorem State.Sound.reset (h : s.Sound) : (s.serve (some .reset) fun r s => s.runReset r).Sound := by
  refine State.serve_cases h fun r rest hr _ => h.ruled.sound (h.kept.runReset hr) ?_ ?_ ?_ ?_
  all_goals simp [State.runReset, State.answer]

/-! ## The host line inward -/

theorem State.Sound.takeHunt (h : s.Sound) {r : HunterRun} (hr : r.hunter.Lawful) : (s.takeHunt r).Sound :=
  h.ruled.sound (h.kept.takeHunt hr) (by simp) (by simp) (by simp) (by simp)

theorem State.Sound.discardMessage (h : s.Sound) : s.discardMessage.Sound := h.takeHunt Hunter.initial_lawful

theorem State.Sound.examine (h : s.Sound) (byte : Byte) : (s.takeHunt (s.hunt.examine rehuntDepth byte)).Sound :=
  h.takeHunt (HunterRun.examine_lawful rehuntDepth h.kept.steady.hunter byte)

theorem State.Sound.lineBreak (h : s.Sound) : exec .lineBreak s = .next t → t.Sound := by
  have hdropped : State.Kept { s with line := { s.line with hunter := .initial } } s.view :=
    h.kept.hunter Hunter.initial_lawful s.line.linkErrors
  refine of_next ?_
  split
  · exact h
  · refine State.Sound.ite (fun _ => ?_) (h.ruled.sound hdropped rfl rfl rfl rfl)
    exact h.ruled.sound hdropped.endSession rfl rfl rfl rfl

/-! ## The host line outward -/

theorem State.Sound.outboundChoice (h : s.Sound) (hwindow : s.delivery.window ≤ 16) :
    exec .outboundChoice s = .next t → t.Sound := by
  refine of_next ?_
  split
  · next hfree =>
    split
    · exact h.ruled.sound (h.kept.transmit hfree.2 (by decide) _) rfl rfl rfl rfl
    · refine State.Sound.ite (fun _ => ?_) h
      have hsame : s.startNotice.part = s.part ∧ s.startNotice.stop = s.stop ∧ s.startNotice.taps = s.taps ∧
          s.startNotice.trunk = s.trunk := by
        unfold State.startNotice
        split
        · exact ⟨rfl, rfl, rfl, rfl⟩
        · exact ⟨rfl, rfl, rfl, rfl⟩
        unfold State.startCapture
        split
        · split <;> exact ⟨rfl, rfl, rfl, rfl⟩
        · exact ⟨rfl, rfl, rfl, rfl⟩
      obtain ⟨hpart, hstop, htaps, htrunk⟩ := hsame
      exact h.ruled.sound (h.kept.startNotice hfree.2 hwindow) hpart hstop htaps htrunk
  · exact h

/-- A change of every element of a vector keeps what holds of each. -/
theorem foldl_set_keeps {α : Type} {n : Nat} {P : Fin n → α → Prop} {f : α → α} (hf : ∀ i x, P i x → P i (f x))
    (is : List (Fin n)) {xs : Vector α n} (h : ∀ i, P i (xs.get i)) (j : Fin n) :
    P j ((is.foldl (fun v (i : Fin n) => v.set i (f (v.get i))) xs).get j) := by
  induction is generalizing xs with
  | nil => exact h j
  | cons i is ih =>
    refine ih fun k => ?_
    by_cases hk : k = i
    · rw [hk, get_set_same]
      exact hf i _ (h i)
    · rw [get_set_other _ _ hk]
      exact h k

/-- A soft reset leaves the blocks a reset leaves, and keeps the tables (R192). -/
theorem State.Fresh.softReset (h : s.TablesLawful) (br1 br0 : Bool) : (s.softReset br1 br0).Fresh := by
  refine ⟨rfl, rfl, ⟨s.store.quota, rfl⟩, rfl, rfl, rfl, rfl, rfl, rfl, rfl, rfl, ⟨_, rfl⟩, rfl, fun j => ?_⟩
  have hkeep : ∀ (i : IngressNo) (g : Ingress), g.TablesLawful i → g.softReset.TablesLawful i := fun _ _ hg => hg
  simpa only [State.softReset, State.ingress] using foldl_set_keeps hkeep allIngresses h j

theorem State.Sound.replyCompleted (h : s.Sound) (br1 br0 : Bool) : exec (.replyCompleted br1 br0) s = .next t → t.Sound := by
  refine of_next ?_
  split
  · next hsends =>
    have hcapture := State.not_sends_capture hsends (by decide)
    split
    · next r rest hreplies =>
      refine State.Sound.ite (fun _ => (State.Fresh.softReset h.kept.steady.tables br1 br0).sound) ?_
      have hold := h.kept.steady.replies
      have hfree := h.kept.freeTransmitter hcapture
      refine h.ruled.sound (hfree.of_engine (engine := s.engine) (line := { s.line with replies := rest, htx := none })
        rfl rfl ⟨hold.nodup, hold.waiting, ?_, hold.overtaken⟩ h.kept.steady.session) rfl rfl rfl rfl
      have := hold.bounded
      rw [hreplies, List.length_cons] at this
      simp only
      omega
    · exact h.ruled.sound (h.kept.freeTransmitter hcapture) rfl rfl rfl rfl
  · exact h

theorem State.Sound.captureCompleted (h : s.Sound) : exec .captureCompleted s = .next t → t.Sound :=
  of_next (State.Sound.ite (fun _ => h.ruled.sound h.kept.captureCompleted rfl rfl rfl rfl) h)

theorem State.Sound.txDoneCompleted (h : s.Sound) : exec .txDoneCompleted s = .next t → t.Sound := by
  refine of_next ?_
  split
  · next hsends =>
    have hfree := h.kept.freeTransmitter (State.not_sends_capture hsends (by decide))
    split
    · next record rest hlist => exact h.ruled.sound (hfree.txDoneCompleted hlist) rfl rfl rfl rfl
    · exact h.ruled.sound hfree rfl rfl rfl rfl
  · exact h

theorem State.Sound.eventCompleted (h : s.Sound) : exec .eventCompleted s = .next t → t.Sound := by
  refine of_next (State.Sound.ite (fun hsends => ?_) h)
  have hfree := h.kept.freeTransmitter (State.not_sends_capture hsends (by decide))
  exact h.ruled.sound ⟨{ hfree.steady with events := EventQueue.Consecutive.tail h.kept.steady.events }, hfree.store⟩
    rfl rfl rfl rfl

end Sys2Proof.Machine
end

section
/-! SUPPORT. The commands and requests of the trunk port keep the laws. -/

namespace Sys2Proof.Machine

variable {s t : State}

/-! ## The port changes -/

/-- The laws of the controller through a change of the port: DETACHED stays DETACHED but in RUN, a detach stays pending. -/
theorem State.Ruled.controlled (h : s.Ruled) {k : Trunk} (hpending : s.trunk.detachPending = true → k.detachPending = true)
    (hstate : s.trunk.state = .detached → k.state = .detached ∨ s.part = .run) :
    State.StopLawful { s with trunk := k } ∧
      (s.part = .booting ∨ s.part = .config → (∀ m : TapNo, (s.tap m).state = .off) ∧ k.state = .detached) := by
  obtain ⟨hiff, hrecord⟩ := h.stopping
  refine ⟨⟨hiff, fun r hr => ?_⟩, fun hi => ⟨(h.off hi).1, ?_⟩⟩
  · obtain ⟨hempty, htaps, hp, hd⟩ := hrecord r hr
    refine ⟨hempty, htaps, fun hr' => hpending (hp hr'), fun hr' => (hstate (hd hr')).resolve_right ?_⟩
    rw [hiff.mpr (Option.isSome_iff_exists.mpr ⟨r, hr⟩)]
    decide
  · refine (hstate (h.off hi).2).resolve_right ?_
    rcases hi with hp | hp <;> rw [hp] <;> decide

theorem State.Ruled.setTrunk (h : s.Ruled) {k : Trunk} (hhealth : State.HealthJudged { s with trunk := k })
    (htrunk : State.TrunkLawful { s with trunk := k })
    (hpending : s.trunk.detachPending = true → k.detachPending = true)
    (hstate : s.trunk.state = .detached → k.state = .detached ∨ s.part = .run) : State.Ruled { s with trunk := k } where
  health := hhealth
  trunk := htrunk
  taps := h.taps
  stopping := (h.controlled hpending hstate).1
  off := (h.controlled hpending hstate).2

theorem State.view_congr (hpart : t.part = s.part) (hstop : t.stop = s.stop) (htaps : t.taps = s.taps)
    (htrunk : t.trunk = s.trunk) : t.view = s.view := by
  have hawaits : t.awaits = s.awaits := funext fun x => propext (State.awaits_congr (by rw [hstop]) htaps htrunk x)
  simp only [State.view, State.fillingSlot_congr htaps htrunk, hawaits, hpart, htrunk]

theorem State.PortLawful.congr (h : s.PortLawful) (htrunk : t.trunk = s.trunk) : t.PortLawful := by
  obtain ⟨h1, h2, h3, h4, h5, h6⟩ := h
  constructor <;> rw [htrunk] <;> assumption

/-- The health history, its state and the absence of an attempt stay. -/
theorem State.HealthJudged.same (h : s.HealthJudged) (hstate : t.trunk.state = s.trunk.state)
    (hhistory : t.trunk.history = s.trunk.history)
    (hflight : t.trunk.inFlight.isSome = true → s.trunk.inFlight.isSome = true) : t.HealthJudged := by
  obtain ⟨hlength, htransmitting, hrest⟩ := h
  refine ⟨by rwa [hhistory], fun hf => by rw [hstate]; exact htransmitting (hflight hf), ?_⟩
  simpa only [Trunk.faults, hstate, hhistory] using hrest

/-- A detach is pending only over an attempt or a frame in progress (R124). -/
theorem State.TrunkLawful.not_pending (h : s.TrunkLawful) (hflight : s.trunk.inFlight = none)
    (hprogress : s.trunk.inProgress = none) : s.trunk.detachPending = false := by
  obtain ⟨-, hpending, -⟩ := h
  exact Bool.eq_false_iff.mpr fun hd => by simpa [hflight, hprogress] using hpending hd

/-- A DETACH is parked only with a detach pending (R123). -/
theorem State.TrunkLawful.not_parked (h : s.TrunkLawful) (hpending : s.trunk.detachPending = false) :
    s.trunk.parkedDetach = false := by
  obtain ⟨-, -, -, -, hparked, -⟩ := h
  exact Bool.eq_false_iff.mpr fun hp => by simp [hparked hp] at hpending

/-- The port changes so that a pending detach may have become free to complete (R124). -/
theorem State.Ruled.settle (h : s.Ruled) {k : Trunk} (hk : t.Kept (State.view { s with trunk := k }))
    (hpart : t.part = s.part) (hstop : t.stop = s.stop) (htaps : t.taps = s.taps) (htrunk : t.trunk = k)
    (hhealth : State.HealthJudged { s with trunk := k }) (hport : State.PortLawful { s with trunk := k })
    (hpending : s.trunk.detachPending = true → k.detachPending = true)
    (hstate : s.trunk.state = .detached → k.state = .detached ∨ s.part = .run) : t.detachIfIdle.Sound := by
  obtain ⟨hcontrol, hoff⟩ := h.controlled hpending hstate
  have hview : t.view = State.view { s with trunk := k } := State.view_congr hpart hstop htaps htrunk
  refine State.Kept.detachIfIdle (hview ▸ hk) (hhealth.congr htrunk) (hport.congr htrunk) (h.taps.congr htaps) ?_ ?_
  · simpa only [State.StopLawful, State.tap, hpart, hstop, htaps, htrunk] using hcontrol
  · simpa only [State.tap, hpart, htaps, htrunk] using hoff

/-- Nothing is to complete in a lawful state. -/
theorem State.Sound.detachIfIdle (h : s.Sound) : s.detachIfIdle.Sound := by
  obtain ⟨hd, -, ha, hu, hp, hi, hc⟩ := h.ruled.trunk
  exact h.kept.detachIfIdle h.ruled.health ⟨hd, ha, hu, hp, hi, hc⟩ h.ruled.taps h.ruled.stopping h.ruled.off

/-! ## The start and the end of a frame at the trunk receiver -/

theorem State.allocate_outer (s : State) (i : IngressNo) (stamp : Word32) :
    (s.allocate i stamp).1.part = s.part ∧ (s.allocate i stamp).1.stop = s.stop ∧
      (s.allocate i stamp).1.taps = s.taps ∧ (s.allocate i stamp).1.trunk = s.trunk := by
  rcases s.allocate_cases i stamp with ⟨reason, heq⟩ | ⟨n, st, -, -, heq⟩
  · rw [heq]; exact ⟨rfl, rfl, rfl, rfl⟩
  · rw [heq]; exact ⟨rfl, rfl, rfl, rfl⟩

/-- The port with a frame in progress that has just started (R114). -/
def Trunk.frameStarted (k : Trunk) (p : InProgress) : Trunk :=
  { k with inProgress := some p, synchronised := false, idleCount := 0 }

theorem State.filling_trunk_none (h : s.trunk.inProgress = none) : s.view.filling trunkIngress = none := by
  change (s.inProgressAt trunkIngress).bind _ = none
  rw [inProgressAt_trunk, h]
  rfl

/-- A frame starts at the trunk receiver (R114). -/
theorem State.Sound.trunkFrameStart (h : s.Sound) (stamp : Word32) (hreceiving : s.trunk.state.receiving = true)
    (hpending : s.trunk.detachPending = false) (hflight : s.trunk.inFlight = none) (hprogress : s.trunk.inProgress = none) :
    (s.trunkFrameStart stamp).Sound := by
  obtain ⟨hpart, hstop, htaps, htrunk⟩ := s.allocate_outer trunkIngress stamp
  have hkept := h.kept.allocate (State.filling_trunk_none hprogress) stamp
  have hattached : s.trunk.state ≠ .detached := fun hd => by simp [hd, TrunkState.receiving] at hreceiving
  have hparked := h.ruled.trunk.not_parked hpending
  have hruled (p : InProgress) : State.Ruled { s with trunk := s.trunk.frameStarted p } :=
    h.ruled.setTrunk (h.ruled.health.same rfl rfl id)
      (by simp [State.TrunkLawful, Trunk.frameStarted, hattached, hflight, hpending, hparked])
      (by simp [hpending]) (by simp [hattached])
  have hview (p : InProgress) {u : State} (hu : u.Kept (s.view.fill trunkIngress p.slotNo)) :
      u.Kept (State.view { s with trunk := s.trunk.frameStarted p }) :=
    hu.view_trunk_parked rfl rfl rfl rfl id
  unfold State.trunkFrameStart
  generalize s.allocate trunkIngress stamp = allocated at *
  refine (hruled allocated.2).sound ((hview allocated.2 hkept).outer _ _ _ _) hpart hstop htaps ?_
  change { allocated.1.trunk with inProgress := some allocated.2, synchronised := false, idleCount := 0 } = _
  rw [htrunk]
  rfl

theorem State.Sound.trunkStartOfFrame (h : s.Sound) : exec .trunkStartOfFrame s = .next t → t.Sound := by
  refine of_next (State.Sound.ite (fun hc => ?_) h)
  obtain ⟨hreceiving, -, -, hpending, hflight, hprogress⟩ := hc
  exact h.trunkFrameStart s.stamp hreceiving hpending hflight hprogress

/-- The port as a frame's end leaves it (R115 to R117). -/
def Trunk.frameEnded (k : Trunk) (acknowledged : Bool) : Trunk :=
  { k with inProgress := none, idleCount := 0, acknowledged := acknowledged }

theorem State.Sound.trunkEndOfFrame (h : s.Sound) (bits : List Level) :
    exec (.trunkEndOfFrame bits) s = .next t → t.Sound := by
  refine of_next ?_
  split
  · next p verdict hprogress hverdict =>
    obtain ⟨hdetached, hpending, happart, hsync, hparked, -, -⟩ := h.ruled.trunk
    have hattached : s.trunk.state ≠ .detached := fun hd => by simpa [hprogress] using (hdetached hd).1
    have hflight : s.trunk.inFlight = none := by
      refine Option.not_isSome_iff_eq_none.mp fun hf => ?_
      simpa [hprogress] using happart hf
    have hfilling : s.view.filling trunkIngress = p.slotNo := by
      change (s.inProgressAt trunkIngress).bind _ = _
      rw [inProgressAt_trunk, hprogress]
      rfl
    have hkept := h.kept.endFrame (h.ruled.busy_of_trunk hattached) hfilling fun f hf =>
      receive_valid (hverdict.trans (congrArg some hf))
    have hview (acknowledged : Bool) : (s.endFrame trunkIngress p verdict).Kept
        (State.view { s with trunk := s.trunk.frameEnded acknowledged }) :=
      hkept.view_trunk_parked rfl rfl rfl rfl id
    refine h.ruled.settle (k := s.trunk.frameEnded _) ((hview _).outer _ _ _ _) (by simp) (by simp) (by simp)
      (by simp; rfl) (h.ruled.health.same rfl rfl id) ⟨?_, ?_, ?_, hparked, ?_, ?_⟩ id ?_
    all_goals simp [Trunk.frameEnded, hattached]
  · exact h

/-! ## Idle gaps -/

/-- The port with its idle gap complete, in the state given (R113, R114). -/
def Trunk.gapEnded (k : Trunk) (state : TrunkState) : Trunk :=
  { k with state := state, synchronised := true, idleCount := Config.idleGap }

/-- The idle gap is complete, with nothing on the line. -/
theorem State.Sound.gapEnded (h : s.Sound) {state : TrunkState} (hflight : s.trunk.inFlight = none)
    (hprogress : s.trunk.inProgress = none) (hattached : s.trunk.state ≠ .detached) (hnext : state ≠ .detached)
    (hhealth : State.HealthJudged { s with trunk := s.trunk.gapEnded state }) :
    State.Sound { s with trunk := s.trunk.gapEnded state } := by
  have hpending := h.ruled.trunk.not_pending hflight hprogress
  have hparked := h.ruled.trunk.not_parked hpending
  refine (h.ruled.setTrunk hhealth ?_ id (by simp [hattached])).sound
    ((h.kept.view_trunk_same (k := s.trunk.gapEnded state) rfl rfl rfl).outer _ _ _ _) rfl rfl rfl rfl
  simp [State.TrunkLawful, Trunk.gapEnded, hnext, hflight, hprogress, hpending, hparked, Config.idleGap]

theorem State.Sound.trunkJoinIdleGap (h : s.Sound) : exec .trunkJoinIdleGap s = .next t → t.Sound := by
  refine of_next (State.Sound.ite (fun ⟨hjoining, hprogress⟩ => ?_) h)
  obtain ⟨-, htransmitting, hempty, -⟩ := h.ruled.health
  have hflight : s.trunk.inFlight = none := Option.not_isSome_iff_eq_none.mp fun hf => by
    simpa [hjoining, TrunkState.transmitting] using htransmitting hf
  have hhistory := hempty (.inr hjoining)
  refine State.Sound.storeEvent (h.gapEnded (state := .active) hflight hprogress (by simp [hjoining]) (by decide) ?_) _
  simp [State.HealthJudged, Trunk.gapEnded, hhistory, Trunk.faults, TrunkState.transmitting]

theorem State.Sound.trunkReceiverResync (h : s.Sound) : exec .trunkReceiverResync s = .next t → t.Sound := by
  refine of_next (State.Sound.ite (fun ⟨hreceiving, hflight, hprogress⟩ => ?_) h)
  have hattached : s.trunk.state ≠ .detached := fun hd => by simp [hd, TrunkState.receiving] at hreceiving
  exact h.gapEnded (state := s.trunk.state) hflight hprogress hattached hattached (h.ruled.health.same rfl rfl id)

/-! ## An attempt starts -/

theorem State.choose_eq_relayHead (h : s.choose = some .relayHead) : s.relay.queue ≠ [] := by
  intro hq
  have hnone : s.headCandidate = none := by simp only [State.headCandidate, hq]
  unfold State.choose at h
  rw [hnone] at h
  split at h <;> simp_all

theorem State.choose_eq_entry {e : EntryNo} (h : s.choose = some (.entry e)) : (s.entry e).state = .pending := by
  have hlowest : lowestEntry s.entryTag s.pendingEntries = some e := by
    unfold State.choose at h
    split at h
    · simp at h
    · simp at h
    · next hlow => simpa [hlow] using h
    · next hlow =>
      rw [hlow]
      split at h
      · simp at h
      · split at h
        · simpa using h
        · simp at h
  rcases lowestEntry_cases s.entryTag s.pendingEntries with ⟨-, hnone⟩ | ⟨e', he', hsome⟩
  · simp [hnone] at hlowest
  · obtain rfl : e' = e := by simpa [hsome] using hlowest
    exact State.mem_pendingEntries.mp he'

/-- The pass-over changes nothing that the laws speak of (R93). -/
theorem State.passedOver_record (s : State) (c : Candidate) :
    (s.passedOver c).isSome = s.relay.head.isSome ∧
      ((s.passedOver c).getD .fresh).flushPending = s.relay.headRecord.flushPending ∧
      ((s.passedOver c).getD .fresh).attempts = s.relay.headRecord.attempts := by
  unfold State.passedOver Relay.headRecord
  split
  · cases s.relay.head <;> exact ⟨rfl, rfl, rfl⟩
  · exact ⟨rfl, rfl, rfl⟩

/-- The chosen candidate is put in flight (R91). -/
theorem State.Kept.startAttempt {v : View} (h : s.Kept v) (hflight : v.flight = none) {c : Candidate}
    (hc : s.choose = some c) : (s.startAttempt c).Kept { v with flight := some c } := by
  have hfits := h.steady.flight
  rw [hflight] at hfits
  obtain ⟨hsome, hflush, hattempts⟩ := s.passedOver_record c
  cases c with
  | relayHead =>
    have hstarted : FlightFits s.entries { s.relay with head := s.passedOver .relayHead } (some .relayHead) :=
      ⟨fun e => by simpa using hfits.entry e, fun _ => State.choose_eq_relayHead hc, fun _ => rfl, hfits.attempts⟩
    exact (h.setRelay rfl hsome hstarted).outer _ _ _ _
  | entry e =>
    have he := State.choose_eq_entry hc
    obtain ⟨hslot, houtcome, -, -, hmax, hfewer⟩ := h.entry_lawful e
    have hholds : (s.entry e).holdsSlot = true := by simp [HostEntry.holdsSlot, he]
    have hentry := h.setEntry (e := e) (x := { s.entry e with state := .inFlight }) (c := some (.entry e))
      ⟨(hslot.trans hholds).trans (by simp [HostEntry.holdsSlot]), by simpa [he] using houtcome, by simp, by simp, hmax,
        fun _ => hfewer hholds⟩ rfl (by simp [he]) (hfits.depart rfl)
    have hdeparted := hentry.steady.flight
    have hstarted : FlightFits (s.entries.set e { s.entry e with state := .inFlight })
        { s.relay with head := s.passedOver (.entry e) } (some (.entry e)) :=
      ⟨hdeparted.entry, by simp, fun hf => hdeparted.flush (hflush.symm.trans hf),
        by simpa [Relay.headRecord, hattempts] using hdeparted.attempts⟩
    exact (hentry.setRelay (relay := { s.relay with head := s.passedOver (.entry e) }) rfl hsome hstarted).outer _ _ _ _

/-- The port with an attempt in flight that has just started (R8, R91). -/
def Trunk.attempting (k : Trunk) (c : Candidate) (sending : List SentBit) (stamp : Word32) : Trunk :=
  { k with inFlight := some c, sending := sending, attemptStamp := stamp, idleCount := 0 }

theorem State.Sound.transmitOpportunity (h : s.Sound) : exec .transmitOpportunity s = .next t → t.Sound := by
  refine of_next (State.Sound.ite (fun hmay => ?_) h)
  split
  · next c hc =>
    obtain ⟨hstate, hflight, hpending, -, -, -, hprogress⟩ := s.mayTransmit_iff.mp hmay
    obtain ⟨hlength, -, hrest⟩ := h.ruled.health
    have hparked := h.ruled.trunk.not_parked hpending
    have hattached : s.trunk.state ≠ .detached := by rcases hstate with hs | hs <;> simp [hs]
    have htransmitting : s.trunk.state.transmitting = true := by rcases hstate with hs | hs <;> rw [hs] <;> rfl
    have hruled (sending : List SentBit) (stamp : Word32) :
        State.Ruled { s with trunk := s.trunk.attempting c sending stamp } :=
      h.ruled.setTrunk ⟨hlength, fun _ => htransmitting, hrest⟩
        (by simp [State.TrunkLawful, Trunk.attempting, hattached, hpending, hprogress, hparked]) id (by simp [hattached])
    refine (hruled _ s.stamp).sound ((h.kept.startAttempt hflight hc).view_trunk_parked ?_ rfl rfl rfl id) rfl rfl rfl rfl
    change s.fillingSlot = Function.update s.fillingSlot trunkIngress (s.trunk.inProgress.bind InProgress.slotNo)
    rw [← inProgressAt_trunk]
    exact (Function.update_eq_self _ _).symm
  · exact h

end Sys2Proof.Machine
end

section
/-! SUPPORT. The outcomes of an attempt, and the requests of the trunk port, keep the laws. -/

namespace Sys2Proof.Machine

variable {s t u : State}

/-! ## The health history -/

theorem recordMark_length {history : List HealthMark} (h : history.length ≤ 16) (m : HealthMark) :
    (recordMark history m).length ≤ 16 := by
  unfold recordMark
  split
  · simpa using h
  · next hroom => exact Nat.le_of_not_lt hroom

theorem count_recordMark_le (history : List HealthMark) (m : HealthMark) :
    (recordMark history m).count .fault ≤ history.count .fault + 1 := by
  have happended : (history ++ [m]).count .fault ≤ history.count .fault + 1 := by
    rw [List.count_append]
    exact Nat.add_le_add_left (by simpa using List.count_le_length (a := HealthMark.fault) (l := [m])) _
  unfold recordMark
  split
  · exact Nat.le_trans ((List.drop_sublist 1 _).count_le _) happended
  · exact happended

/-- The port as the end of an attempt leaves it (R94, R119). -/
def Trunk.attemptEnded (k : Trunk) : Trunk := { k with inFlight := none, sending := [], idleCount := 0 }

/-- The port with one more outcome recorded and its state judged (R120, R121). -/
def Trunk.judged (k : Trunk) (m : HealthMark) : Trunk :=
  { k with
    history := recordMark k.history m
    state := judgedState k.state ((recordMark k.history m).count .fault) }

/-- An outcome is recorded in ACTIVE and DEGRADED alone (R120, R121). -/
theorem State.HealthJudged.judged (h : s.HealthJudged) (hstate : s.trunk.state = .active ∨ s.trunk.state = .degraded)
    (m : HealthMark) : State.HealthJudged { s with trunk := s.trunk.attemptEnded.judged m } ∧
      (s.trunk.attemptEnded.judged m).state ≠ .detached := by
  obtain ⟨hlength, -, -, hactive, hdegraded, -⟩ := h
  have hlength' := recordMark_length hlength m
  have hcount := count_recordMark_le s.trunk.history m
  simp only [State.HealthJudged, Trunk.judged, Trunk.attemptEnded, Trunk.faults] at *
  generalize recordMark s.trunk.history m = history at *
  rcases hstate with hs | hs
  · have hfew := hactive hs
    simp only [hs, judgedState]
    split <;> simp [hlength'] <;> omega
  · have hfew := (hdegraded hs).2
    simp only [hs, judgedState]
    split
    · simp [hlength']
      omega
    · split <;> simp [hlength'] <;> omega

/-! ## Outcomes -/

/-- The attempt in flight belongs to a port in ACTIVE or DEGRADED without a frame in progress (R119). -/
theorem State.Sound.attempt_facts (h : s.Sound) {c : Candidate} (hc : s.trunk.inFlight = some c) :
    (s.trunk.state = .active ∨ s.trunk.state = .degraded) ∧ s.trunk.inProgress = none := by
  obtain ⟨-, htransmitting, -⟩ := h.ruled.health
  obtain ⟨-, -, happart, -⟩ := h.ruled.trunk
  have hstate := htransmitting (by rw [hc]; rfl)
  refine ⟨?_, happart (by rw [hc]; rfl)⟩
  cases hs : s.trunk.state <;> simp [hs, TrunkState.transmitting] at hstate ⊢

/-- `u` has applied the outcome of the attempt in flight to the candidate: what the port has still to do is not done. -/
structure State.Applied (s u : State) : Prop where
  kept : u.Kept { s.view with flight := none }
  part : u.part = s.part
  stop : u.stop = s.stop
  taps : u.taps = s.taps
  trunk : u.trunk = s.trunk

/-- The view of a port whose attempt is over. -/
theorem State.Kept.view_landed {w : State} (hw : w.Kept { s.view with flight := none }) {k : Trunk}
    (hprogress : k.inProgress = s.trunk.inProgress) (hflight : k.inFlight = none)
    (hparked : k.parkedDetach = s.trunk.parkedDetach) : w.Kept (State.view { s with trunk := k }) := by
  refine hw.view_trunk_parked ?_ hflight.symm rfl hparked id
  rw [hprogress, ← inProgressAt_trunk]
  exact (Function.update_eq_self _ _).symm

theorem State.Sound.applySent (h : s.Sound) {c : Candidate} (hc : s.trunk.inFlight = some c) :
    s.Applied (s.applySent c) := by
  refine ⟨h.kept.applySent hc, ?_, ?_, ?_, ?_⟩
  all_goals cases c <;> simp [State.applySent]

theorem State.Sound.applyLost (h : s.Sound) {c : Candidate} (hc : s.trunk.inFlight = some c) :
    s.Applied (s.applyLost c) := by
  refine ⟨h.kept.applyLost hc, ?_, ?_, ?_, s.applyLost_trunk c⟩
  all_goals
    cases c
    · simp only [State.applyLost]
      split <;> simp
    · simp only [State.applyLost]
      split <;> simp

theorem State.Sound.applyFault (h : s.Sound) (hlimit : s.relay.retryLimit ≤ 15) {c : Candidate}
    (hc : s.trunk.inFlight = some c) : s.Applied (s.applyFault c) := by
  refine ⟨h.kept.applyFault hlimit hc, ?_, ?_, ?_, ?_⟩
  all_goals
    cases c
    · simp only [State.applyFault]
      split
      · simp
      · split <;> simp
    · simp only [State.applyFault]
      split
      · simp
      · split <;> simp

/-- The attempt ends with an outcome that is recorded (R94, R120, R121, R124). -/
theorem State.Sound.outcome_recorded (h : s.Sound) {c : Candidate} (hc : s.trunk.inFlight = some c) (hu : s.Applied u)
    (m : HealthMark) : (u.endAttempt.recordOutcome m).detachIfIdle.Sound := by
  obtain ⟨hstate, hprogress⟩ := h.attempt_facts hc
  obtain ⟨hhealth, hattached⟩ := h.ruled.health.judged hstate m
  obtain ⟨hdetached, -, -, hsync, hparked, -, -⟩ := h.ruled.trunk
  have hevents (changed : Prop) [Decidable changed] (info : EventInfo) :
      EventQueue.Consecutive (if changed then u.events else u.events.push info u.stamp) := by
    split
    · exact hu.kept.steady.events
    · exact EventQueue.Consecutive.push hu.kept.steady.events _ _
  have hkept : (u.endAttempt.recordOutcome m).Kept { s.view with flight := none } :=
    ⟨{ hu.kept.steady with events := hevents _ _ }, hu.kept.store⟩
  refine h.ruled.settle (k := s.trunk.attemptEnded.judged m) (hkept.view_landed rfl rfl rfl) hu.part hu.stop hu.taps
    (by rw [← hu.trunk]; rfl) hhealth ⟨fun hd => absurd hd hattached, nofun, hsync, hparked, nofun, Nat.zero_le _⟩ id ?_
  intro hd
  rcases hstate with hs | hs <;> simp [hs] at hd

theorem State.Sound.outcomeSent (h : s.Sound) (read : List Level) : exec (.outcomeSent read) s = .next t → t.Sound := by
  refine of_next ?_
  split
  · exact h
  · next c hc => exact State.Sound.ite (fun _ => h.outcome_recorded hc (h.applySent hc) .sent) h

theorem State.Sound.outcomeFault (h : s.Sound) (hlimit : s.relay.retryLimit ≤ 15) (read : List Level) :
    exec (.outcomeFault read) s = .next t → t.Sound := by
  refine of_next ?_
  split
  · exact h
  · next c hc => exact State.Sound.ite (fun _ => h.outcome_recorded hc (h.applyFault hlimit hc) .fault) h

/-- The attempt ends, and the frame that won the arbitration is followed (R8, R97, R114, R123, R124). -/
theorem State.Sound.winner_followed (h : s.Sound) {c : Candidate} (hc : s.trunk.inFlight = some c) (hu : s.Applied u) :
    u.endAttempt.followWinner.detachIfIdle.Sound := by
  obtain ⟨hstate, hprogress⟩ := h.attempt_facts hc
  obtain ⟨hdetached, -, -, hsync, hparked, -, -⟩ := h.ruled.trunk
  have hattached : s.trunk.state ≠ .detached := by rcases hstate with hs | hs <;> simp [hs]
  have hreceiving := TrunkState.receiving_of_transmitting hstate
  have hhealth : State.HealthJudged { s with trunk := s.trunk.attemptEnded } := h.ruled.health.same rfl rfl nofun
  have hlanded : u.endAttempt.Kept { s.view with flight := none } := hu.kept.outer _ _ _ _
  have hkept : u.endAttempt.Kept (State.view { s with trunk := s.trunk.attemptEnded }) := hlanded.view_landed rfl rfl rfl
  have htrunk : u.endAttempt.trunk = s.trunk.attemptEnded := by rw [← hu.trunk]; rfl
  cases hd : s.trunk.detachPending with
  | true =>
    have hstay : u.endAttempt.followWinner = u.endAttempt := by simp [State.followWinner, hu.trunk, hd]
    rw [hstay]
    exact h.ruled.settle hkept hu.part hu.stop hu.taps htrunk hhealth
      ⟨fun hs => absurd hs hattached, nofun, hsync, hparked, nofun, Nat.zero_le _⟩ id fun hs => absurd hs hattached
  | false =>
    have hruled : State.Ruled { s with trunk := s.trunk.attemptEnded } :=
      h.ruled.setTrunk hhealth
        (by simp [State.TrunkLawful, Trunk.attemptEnded, hattached, hprogress, hd, h.ruled.trunk.not_parked hd]) id fun hs => absurd hs hattached
    have hended : u.endAttempt.Sound := hruled.sound hkept hu.part hu.stop hu.taps htrunk
    refine State.Sound.detachIfIdle ?_
    unfold State.followWinner
    split
    · exact hended.trunkFrameStart _ (by rw [htrunk]; exact hreceiving) (by rw [htrunk]; exact hd) (by rw [htrunk]; rfl)
        (by rw [htrunk]; exact hprogress)
    · exact hended

theorem State.Sound.outcomeLost (h : s.Sound) (read : List Level) : exec (.outcomeLost read) s = .next t → t.Sound := by
  refine of_next ?_
  split
  · exact h
  · next c hc => exact State.Sound.ite (fun _ => h.winner_followed hc (h.applyLost hc)) h

/-! ## ATTACH, DETACH, RESUME -/

/-- The port in JOINING with an empty history (R112, R122). -/
def Trunk.joining (k : Trunk) (synchronised : Bool) : Trunk :=
  { k with state := .joining, history := [], idleCount := 0, synchronised := synchronised }

theorem State.Sound.joins (h : s.Sound) {synchronised : Bool} (hflight : s.trunk.inFlight = none)
    (hpending : s.trunk.detachPending = false) (hsync : s.trunk.inProgress.isSome = true → synchronised = false)
    (hstate : s.trunk.state = .detached → s.part = .run) :
    State.Sound { s with trunk := s.trunk.joining synchronised } := by
  have hparked := h.ruled.trunk.not_parked hpending
  refine (h.ruled.setTrunk (k := s.trunk.joining synchronised) ?_ ?_ id fun hd => .inr (hstate hd)).sound
    ((h.kept.view_trunk_same (k := s.trunk.joining synchronised) rfl rfl rfl).outer _ _ _ _) rfl rfl rfl rfl
  · simp [State.HealthJudged, Trunk.joining, hflight]
  · simpa [State.TrunkLawful, Trunk.joining, hflight, hpending, hparked] using hsync

theorem State.Sound.runAttach (h : s.Sound) (hroom : s.Room) (r : Request) : (s.runAttach r).Sound := by
  refine h.afterCheck hroom r fun _ hc => State.Sound.answer ?_ (by exact hroom) r _ _ _
  obtain ⟨hrun, hdetached⟩ := State.checkAttach_ok hc
  obtain ⟨hempty, -⟩ := h.ruled.trunk
  exact (h.joins (h.ruled.health.not_inFlight hdetached) (hempty hdetached).2.2 (fun _ => rfl) fun _ => hrun).storeEvent _

theorem State.Sound.runResume (h : s.Sound) (hroom : s.Room) (r : Request) : (s.runResume r).Sound := by
  refine h.afterCheck hroom r fun _ hc => State.Sound.answer ?_ (by exact hroom) r _ _ _
  obtain ⟨hpending, hsuspended⟩ := State.checkResume_ok hc
  obtain ⟨-, htransmitting, -⟩ := h.ruled.health
  obtain ⟨-, -, -, hsync, -⟩ := h.ruled.trunk
  have hflight : s.trunk.inFlight = none := Option.not_isSome_iff_eq_none.mp fun hf => by
    simpa [hsuspended, TrunkState.transmitting] using htransmitting hf
  exact (h.joins hflight hpending hsync (by simp [hsuspended])).storeEvent _

/-- A DETACH is parked, and the port knows of it (R123). -/
theorem State.Kept.park_detach (h : s.Kept s.view) (hroom : s.Room) (r : Request) (hnot : s.trunk.parkedDetach = false)
    {k : Trunk} (hprogress : k.inProgress = s.trunk.inProgress) (hflight : k.inFlight = s.trunk.inFlight)
    (hparked : k.parkedDetach = true) :
    (State.park { s with trunk := k } r .detach).Kept (State.view { s with trunk := k }) := by
  have hnew : ¬ s.view.waits .detach := by
    change ¬ s.trunk.parkedDetach = true
    simp [hnot]
  have hpark := State.Kept.park (h.outer s.part s.stop s.taps k) hroom r hnew
  refine hpark.view_trunk ?_ hflight.symm (fun x => ?_) id
  · rw [hprogress, ← inProgressAt_trunk]
    exact (Function.update_eq_self _ _).symm
  · by_cases hx : x = .detach <;> simp [hx, hparked, State.view]

theorem State.Sound.runDetach (h : s.Sound) (hroom : s.Room) (r : Request) : (s.runDetach r).Sound := by
  obtain ⟨hdetached, hpending, happart, hsync, hparked, hidle, hcount⟩ := h.ruled.trunk
  unfold State.runDetach
  split
  · exact h.answer hroom r _ _ _
  next hattached =>
  split
  · next hd =>
    exact h.ruled.settle (h.kept.park_detach hroom r (h.ruled.trunk.not_parked hd) rfl rfl rfl) rfl rfl rfl rfl
      (h.ruled.health.same rfl rfl id) ⟨fun hs => absurd hs hattached, happart, hsync, fun _ => rfl, hidle, hcount⟩
      (fun _ => rfl) fun hs => absurd hs hattached
  next hd =>
  have hd : s.trunk.detachPending = true := by simpa using hd
  split
  · exact h.refuse hroom r _ _
  · next hp =>
    exact (h.ruled.setTrunk (k := { s.trunk with parkedDetach := true }) (h.ruled.health.same rfl rfl id)
      ⟨hdetached, hpending, happart, hsync, fun _ => hd, hidle, hcount⟩ id .inl).sound
      (h.kept.park_detach hroom r (by simpa using hp) rfl rfl rfl) rfl rfl rfl rfl

end Sys2Proof.Machine
end

section
/-! SUPPORT. The commands and requests of the taps, the memory check and START keep the laws. -/

namespace Sys2Proof.Machine

variable {s t u : State} {k : TapNo}

/-! ## Start and end of a frame at a tap -/

/-- A close is parked in CLOSING alone (R45). -/
theorem Tap.Lawful.not_parked {tap : Tap} (h : tap.Lawful) (hs : tap.state ≠ .closing) : tap.parkedClose = false :=
  Bool.eq_false_iff.mpr fun hp => hs (h.2.2.2 hp)

/-- A tap with a frame in progress is not synchronised (R36). -/
theorem Tap.Lawful.unsynchronised {tap : Tap} (h : tap.Lawful) {p : InProgress} (hp : tap.inProgress = some p) :
    tap.synchronised = false :=
  Bool.eq_false_iff.mpr fun hs => by simpa [hp] using (h.2.2.1 hs).2

/-- A tap in SYNC, or in LISTEN without a frame, has no frame in progress (R35). -/
theorem Tap.Lawful.no_frame {tap : Tap} (h : tap.Lawful) (hoff : tap.state ≠ .off) (hclosing : tap.state ≠ .closing)
    (hframe : ∀ p, tap.state = .listen → tap.inProgress = some p → False) : tap.inProgress = none := by
  cases hp : tap.inProgress with
  | none => rfl
  | some p =>
    cases hs : tap.state with
    | off => exact absurd hs hoff
    | closing => exact absurd hs hclosing
    | listen => exact absurd hp (hframe p hs)
    | sync => simpa [hp] using h.1 (.inr hs)

/-- The tap with a frame in progress that has just started (R40). -/
def Tap.frameStarted (tap : Tap) (p : InProgress) : Tap :=
  { tap with inProgress := some p, synchronised := false, idleCount := 0 }

theorem State.modTap_congr (htaps : t.taps = s.taps) (k : TapNo) (f : Tap → Tap) : (t.modTap k f).taps = (s.modTap k f).taps := by
  simp only [State.modTap, State.tap, htaps]

theorem State.Sound.tapStartOfFrame (h : s.Sound) (k : TapNo) : exec (.tapStartOfFrame k) s = .next t → t.Sound := by
  refine of_next (State.Sound.ite (fun hc => ?_) h)
  obtain ⟨hlisten, -, hprogress⟩ := hc
  obtain ⟨hpart, hstop, htaps, htrunk⟩ := s.allocate_outer (tapIngress k) s.stamp
  have hnone : s.view.filling (tapIngress k) = none := by
    change (s.inProgressAt (tapIngress k)).bind _ = none
    rw [inProgressAt_tap, hprogress]
    rfl
  have hkept := h.kept.allocate hnone s.stamp
  have hparked := (h.ruled.taps k).not_parked (by simp [hlisten])
  generalize s.allocate (tapIngress k) s.stamp = allocated at *
  have hruled : (s.modTap k fun tap => tap.frameStarted allocated.2).Ruled :=
    h.ruled.modTap (by simp [Tap.Lawful, Tap.frameStarted, hlisten, hparked]) (.inl rfl)
  have hview : allocated.1.Kept (s.modTap k fun tap => tap.frameStarted allocated.2).view := by
    refine hkept.view_modTap rfl rfl (fun x => ?_) id
    split
    · next hx => simp [hx, View.fill, State.view, State.awaits, Tap.frameStarted]
    · rfl
  exact hruled.sound (hview.outer _ _ _ _) hpart hstop (State.modTap_congr htaps k _) htrunk

/-- The frame in progress at a tap ends (R42, R43). -/
theorem State.Sound.endFrame_kept (h : s.Sound) {p : InProgress} {bits : List Level} {verdict : Verdict}
    (hp : (s.tap k).inProgress = some p) (hverdict : receive bits = some verdict) :
    (s.endFrame (tapIngress k) p verdict).Kept (s.view.fill (tapIngress k) none) := by
  have hoff : (s.tap k).state ≠ .off := fun hs => by simpa [hp] using (h.ruled.taps k).1 (.inl hs)
  have hfilling : s.view.filling (tapIngress k) = p.slotNo := by
    change (s.inProgressAt (tapIngress k)).bind _ = _
    rw [inProgressAt_tap, hp]
    rfl
  exact h.kept.endFrame (h.ruled.busy_of_tap hoff) hfilling fun f hf => receive_valid (hverdict.trans (congrArg some hf))

/-- The tap goes on without the frame that has ended. -/
theorem State.Sound.tap_frame_ended (h : s.Sound) {p : InProgress} {bits : List Level} {verdict : Verdict}
    (hp : (s.tap k).inProgress = some p) (hverdict : receive bits = some verdict) {f : Tap → Tap}
    (hl : (f (s.tap k)).Lawful) (hs : (f (s.tap k)).state = (s.tap k).state ∨ s.part = .run)
    (hnone : (f (s.tap k)).inProgress = none) (hparked : (f (s.tap k)).parkedClose = (s.tap k).parkedClose) :
    ((s.endFrame (tapIngress k) p verdict).modTap k f).Sound := by
  have hview : (s.endFrame (tapIngress k) p verdict).Kept (s.modTap k f).view := by
    refine (h.endFrame_kept hp hverdict).view_modTap (by rw [hnone]; rfl) rfl (fun x => ?_) id
    split
    · next hx => rw [hx, hparked]; rfl
    · rfl
  exact (h.ruled.modTap hl hs).sound (hview.outer _ _ _ _) (by simp) (by simp) (State.modTap_congr (by simp) k f) (by simp)

/-- A tap in LISTEN stays or resynchronises (R42, R43). -/
theorem State.Sound.listenFrameEnd (h : s.Sound) {p : InProgress} {bits : List Level} {verdict : Verdict}
    (hp : (s.tap k).inProgress = some p) (hverdict : receive bits = some verdict) (hlisten : (s.tap k).state = .listen) :
    ((s.endFrame (tapIngress k) p verdict).listenFrameEnd k verdict).Sound := by
  have hparked := (h.ruled.taps k).not_parked (by simp [hlisten])
  have hrun : s.part = .run := h.ruled.run_of_tap (k := k) (by simp [hlisten]) (by simp [hlisten])
  have hinvalid : ((s.endFrame (tapIngress k) p verdict).modTap k fun tap =>
      { tap with state := .sync, synchronised := false, idleCount := 0, inProgress := none }).Sound :=
    h.tap_frame_ended hp hverdict (by simp [Tap.Lawful, hparked]) (.inr hrun) rfl rfl
  cases verdict with
  | valid f =>
    exact h.tap_frame_ended (f := fun tap => { tap with inProgress := none, idleCount := 0 }) hp hverdict
      ⟨fun _ => rfl, by simp [hlisten], fun _ => ⟨hlisten, rfl⟩, by simp [hparked]⟩ (.inl rfl) rfl rfl
  | invalidCheck => exact hinvalid.storeEvent _
  | invalidFormat found => exact hinvalid.storeEvent _

/-- A tap that is OFF is struck from the stop record (R187). -/
theorem State.Tracked.strike_tap (h : s.Tracked s.stop)
    (hstate : ∀ m : TapNo, (t.tap m).state = if m = k then .off else (s.tap m).state) (hpart : t.part = s.part)
    (hstop : t.stop = s.stop) (htrunk : t.trunk = s.trunk) :
    t.Tracked (t.stop.map fun r => { r with taps := r.taps.filter (· ≠ k) }) := by
  rw [hstop]
  refine ⟨by rw [hpart, h.part, Option.isSome_map], fun r hr m => ?_, fun r hr => ?_, fun r hr => ?_⟩
  all_goals obtain ⟨r', hr', rfl⟩ := Option.map_eq_some_iff.mp hr
  · rw [hstate, h.taps r' hr']
    by_cases hm : m = k <;> simp [hm]
  · rw [htrunk]
    exact h.pending r' hr'
  · rw [htrunk]
    exact h.detached r' hr'

/-- The tap as the end of a closing tap's frame leaves it (R46). -/
def Tap.closed (tap : Tap) : Tap := { tap.turnedOff with inProgress := none, parkedClose := false }

/-- A closing tap is OFF, answers a parked CLOSE_TAP and reports (R46, R48, R189). -/
theorem State.Sound.closingFrameEnd (h : s.Sound) {p : InProgress} {bits : List Level} {verdict : Verdict}
    (hp : (s.tap k).inProgress = some p) (hverdict : receive bits = some verdict) (hclosing : (s.tap k).state = .closing) :
    ((s.endFrame (tapIngress k) p verdict).closingFrameEnd k).Sound := by
  have hended := h.endFrame_kept hp hverdict
  have hbusy : ¬ (s.part = .booting ∨ s.part = .config) := h.ruled.busy_of_tap (k := k) (by simp [hclosing])
  have htap : (s.endFrame (tapIngress k) p verdict).tap k = s.tap k := by simp
  have hpart : (s.endFrame (tapIngress k) p verdict).part = s.part := by simp
  have hstop : (s.endFrame (tapIngress k) p verdict).stop = s.stop := by simp
  have htaps : ((s.endFrame (tapIngress k) p verdict).modTap k Tap.closed).taps = (s.modTap k Tap.closed).taps :=
    State.modTap_congr (by simp) k _
  have htrunk : (s.endFrame (tapIngress k) p verdict).trunk = s.trunk := by simp
  generalize s.endFrame (tapIngress k) p verdict = e at *
  let closed : State := e.changeTap k Tap.closed .off
  let answered : State :=
    if (e.tap k).parkedClose then closed.answerParked (.closeTap k) (closed.closeTapResult k) else closed
  have heq : e.closingFrameEnd k = answered.reportTap k := rfl
  have hkept : answered.Kept { s.view.fill (tapIngress k) none with waits := fun x => s.awaits x ∧ x ≠ .closeTap k } := by
    have hclosed : closed.Kept (s.view.fill (tapIngress k) none) := State.Kept.storeEvent (hended.outer _ _ _ _) _
    simp only [answered]
    split
    · exact hclosed.answerParked _ _
    · next hnot =>
      refine hclosed.waits_and_ne ?_
      rwa [htap] at hnot
  have hsame : answered.part = s.part ∧ answered.stop = s.stop ∧ answered.taps = (s.modTap k Tap.closed).taps ∧
      answered.trunk = s.trunk := by
    simp only [answered]
    split <;> simp [closed, State.changeTap, hpart, hstop, htaps, htrunk]
  obtain ⟨hpart', hstop', htaps', htrunk'⟩ := hsame
  have hstate (m : TapNo) : (answered.tap m).state = if m = k then .off else (s.tap m).state := by
    have hm : answered.tap m = (s.modTap k Tap.closed).tap m := by simp only [State.tap, htaps']
    rw [hm]
    split
    · next hmk => rw [hmk, State.tap_modTap_same]; rfl
    · next hmk => rw [State.tap_modTap_other s _ hmk]
  have hview : answered.Kept (s.modTap k Tap.closed).view := by
    refine hkept.view_modTap rfl rfl (fun x => ?_) id
    by_cases hx : x = .closeTap k <;> simp [hx, Tap.closed]
  rw [heq]
  refine State.Reporting.report
    ⟨State.view_congr (s := s.modTap k Tap.closed) hpart' hstop' htaps' htrunk' ▸ hview, h.ruled.health.congr htrunk',
      h.ruled.trunk.congr htrunk', ?_, fun hi => ?_⟩ ?_
  · intro m
    have hm : answered.tap m = (s.modTap k Tap.closed).tap m := by simp only [State.tap, htaps']
    rw [hm]
    by_cases hmk : m = k
    · rw [hmk, State.tap_modTap_same]
      simp [Tap.Lawful, Tap.closed, Tap.turnedOff]
    · rw [State.tap_modTap_other s _ hmk]
      exact h.ruled.taps m
  · rw [hpart'] at hi
    exact absurd hi hbusy
  · exact h.ruled.stopping.tracked.strike_tap hstate hpart' hstop' htrunk'

theorem State.Sound.tapEndOfFrame (h : s.Sound) (k : TapNo) (bits : List Level) :
    exec (.tapEndOfFrame k bits) s = .next t → t.Sound := by
  refine of_next ?_
  split
  · next p verdict hp hverdict =>
    split
    · next hlisten => exact h.listenFrameEnd hp hverdict hlisten
    · next hclosing => exact h.closingFrameEnd hp hverdict hclosing
    · exact h
    · exact h
  · exact h

/-! ## Idle gaps -/

/-- A tap changes and keeps its frame in progress and its parked close. -/
theorem State.Sound.modTap (h : s.Sound) {f : Tap → Tap} (hl : (f (s.tap k)).Lawful)
    (hs : (f (s.tap k)).state = (s.tap k).state ∨ s.part = .run)
    (hprogress : (f (s.tap k)).inProgress = (s.tap k).inProgress)
    (hparked : (f (s.tap k)).parkedClose = (s.tap k).parkedClose) : (s.modTap k f).Sound :=
  (h.ruled.modTap hl hs).sound ((h.kept.view_modTap_same hprogress hparked).outer _ _ _ _) rfl rfl rfl rfl

theorem State.Sound.tapIdleGap (h : s.Sound) (k : TapNo) : exec (.tapIdleGap k) s = .next t → t.Sound := by
  refine of_next (State.Sound.ite (fun hsync => ?_) h)
  have hprogress := (h.ruled.taps k).1 (.inr hsync)
  have hparked := (h.ruled.taps k).not_parked (by simp [hsync])
  have hrun : s.part = .run := h.ruled.run_of_tap (k := k) (by simp [hsync]) (by simp [hsync])
  exact (h.modTap (k := k) (f := fun tap => { tap with state := .listen, synchronised := true, idleCount := Config.idleGap })
    (by simp [Tap.Lawful, hprogress, hparked]) (.inr hrun) rfl rfl).storeEvent _

theorem State.Sound.tapResynchronised (h : s.Sound) (k : TapNo) : exec (.tapResynchronised k) s = .next t → t.Sound := by
  refine of_next (State.Sound.ite (fun ⟨hlisten, _, hprogress⟩ => ?_) h)
  have hparked := (h.ruled.taps k).not_parked (by simp [hlisten])
  exact h.modTap (k := k) (by simp [Tap.Lawful, hlisten, hprogress, hparked]) (.inl rfl) rfl rfl

/-! ## OPEN_TAP and CLOSE_TAP -/

theorem State.Sound.runOpenTap (h : s.Sound) (hroom : s.Room) (r : Request) : (s.runOpenTap r).Sound := by
  unfold State.runOpenTap
  split
  · refine h.afterCheck hroom r fun k hc => State.Sound.answer ?_ (by exact hroom) r _ _ _
    obtain ⟨hrun, hoff⟩ := State.checkOpenTap_ok hc
    have hprogress := (h.ruled.taps k).1 (.inl hoff)
    have hparked := (h.ruled.taps k).not_parked (by simp [hoff])
    exact (h.modTap (k := k) (f := fun tap => { tap with state := .sync, synchronised := false, idleCount := 0 })
      (by simp [Tap.Lawful, hprogress, hparked]) (.inr hrun) rfl rfl).storeEvent _
  · exact h

/-- A CLOSE_TAP is parked, and the tap knows of it (R45, R47). -/
theorem State.Kept.park_close {w : State} (hw : w.Kept s.view) (hroom : w.Room) (r : Request)
    (hnot : (s.tap k).parkedClose = false) {f : Tap → Tap} (hprogress : (f (s.tap k)).inProgress = (s.tap k).inProgress)
    (hparked : (f (s.tap k)).parkedClose = true) : (w.park r (.closeTap k)).Kept (s.modTap k f).view := by
  have hnew : ¬ s.view.waits (.closeTap k) := by
    change ¬ (s.tap k).parkedClose = true
    simp [hnot]
  refine (hw.park hroom r hnew).view_modTap ?_ rfl (fun x => ?_) id
  · rw [hprogress, ← inProgressAt_tap]
    exact (Function.update_eq_self _ _).symm
  · by_cases hx : x = .closeTap k <;> simp [hx, hparked, State.view]

/-- A tap without a frame in progress is OFF at once; only in RUN is there one that was not (R44, R48). -/
theorem State.Sound.closeNow (h : s.Sound) (hroom : s.Room) (r : Request) (hoff : (s.tap k).state ≠ .off)
    (hclosing : (s.tap k).state ≠ .closing) (hprogress : (s.tap k).inProgress = none) : (s.closeNow r k).Sound := by
  have hparked := (h.ruled.taps k).not_parked hclosing
  have hrun := h.ruled.run_of_tap hoff hclosing
  have hclosed : (s.changeTap k Tap.turnedOff .off).Sound :=
    (h.modTap (k := k) (f := Tap.turnedOff) (by simp [Tap.Lawful, Tap.turnedOff, hprogress, hparked]) (.inr hrun) rfl
      rfl).storeEvent _
  have hanswered := hclosed.answer hroom r .ok 0 ((s.changeTap k Tap.turnedOff .off).closeTapResult k)
  have hstop := h.ruled.stop_none (by simp [hrun])
  unfold State.closeNow State.reportTap
  rw [State.report_none _ (by simpa [State.answer] using hstop)]
  exact hanswered

theorem State.Sound.closeTap (h : s.Sound) (hroom : s.Room) (r : Request) (k : TapNo) : (s.closeTap r k).Sound := by
  obtain ⟨-, hsome, hsync, -⟩ := h.ruled.taps k
  unfold State.closeTap
  split
  · exact h.answer hroom r _ _ _
  · next p hlisten hp =>
    have hrun : s.part = .run := h.ruled.run_of_tap (k := k) (by simp [hlisten]) (by simp [hlisten])
    have hnot := (h.ruled.taps k).not_parked (by simp [hlisten])
    have hunsync := (h.ruled.taps k).unsynchronised hp
    have hevent : (s.changeTap k (fun tap => { tap with state := .closing, parkedClose := true }) .closing).Kept s.view :=
      State.Kept.storeEvent (h.kept.outer _ _ _ _) _
    exact (h.ruled.modTap (f := fun tap => { tap with state := .closing, parkedClose := true })
      (by simp [Tap.Lawful, hp, hunsync]) (.inr hrun)).sound (hevent.park_close hroom r hnot rfl rfl) rfl rfl rfl rfl
  · next hclosing =>
    split
    · exact h.refuse hroom r _ _
    · next hnot =>
      have hunsync : (s.tap k).synchronised = false :=
        Bool.eq_false_iff.mpr fun hs => by simpa [hclosing] using (hsync hs).1
      have hevent : (s.modTap k fun tap => { tap with parkedClose := true }).Kept s.view := h.kept.outer _ _ _ _
      exact (h.ruled.modTap (f := fun tap => { tap with parkedClose := true })
        (by simpa [Tap.Lawful, hclosing, hunsync] using hsome hclosing) (.inl rfl)).sound
        (hevent.park_close hroom r (by simpa using hnot) rfl rfl) rfl rfl rfl rfl
  · next hoff hclosing hframe =>
    exact h.closeNow hroom r hoff hclosing ((h.ruled.taps k).no_frame hoff hclosing hframe)

theorem State.Sound.runCloseTap (h : s.Sound) (hroom : s.Room) (r : Request) : (s.runCloseTap r).Sound := by
  unfold State.runCloseTap
  split
  · exact h.afterCheck hroom r fun k _ => h.closeTap hroom r k
  · exact h

/-! ## The part starts -/

/-- The part goes from one state to another that is neither STOPPING, and becomes busy or stays as it was. -/
theorem State.Sound.setPart (h : s.Sound) {part : PartState} (hold : s.part ≠ .stopping) (hnew : part ≠ .stopping)
    (hidle : part = .booting ∨ part = .config → s.part = .booting ∨ s.part = .config) :
    State.Sound { s with part := part } where
  kept := (h.kept.outer part s.stop s.taps s.trunk).of_view rfl rfl (fun x => by cases x <;> exact Iff.rfl) hidle
  ruled := ⟨h.ruled.health, h.ruled.trunk, h.ruled.taps,
    ⟨by simp [hnew, h.ruled.stop_none hold], fun r hr => by simp [h.ruled.stop_none hold] at hr⟩,
    fun hi => h.ruled.off (hidle hi)⟩

theorem State.Sound.memoryCheckCompleted (h : s.Sound) (correct : Bool) :
    exec (.memoryCheckCompleted correct) s = .next t → t.Sound :=
  of_next (State.Sound.ite (fun ⟨hbooting, _⟩ =>
    (h.setPart (by simp [hbooting]) (by decide) fun _ => .inl hbooting).storeEvent _) h)

theorem State.Sound.runStart (h : s.Sound) (hroom : s.Room) (r : Request) : (s.runStart r).Sound := by
  refine h.afterCheck hroom r fun _ hc => State.Sound.answer ?_ (by exact hroom) r _ _ _
  have hconfig : s.part = .config := of_decide_eq_true (needState_eq_ok.mp hc)
  exact (h.setPart (part := .run) (by simp [hconfig]) (by decide) (by simp)).storeEvent _

end Sys2Proof.Machine
end

section
/-! SUPPORT. STOP keeps the laws: the taps are closed one after another, then the trunk port is detached. While that goes on the stop
record names the taps that are still to be closed as well as those that are CLOSING. -/

namespace Sys2Proof.Machine

variable {s u : State} {k : TapNo}

/-- STOP has closed the taps that are not in `todo`; `r` is the stop record (R186). -/
structure State.Closing (u : State) (r : StopRecord) (todo : List TapNo) : Prop where
  kept : u.Kept u.view
  health : u.HealthJudged
  trunk : u.TrunkLawful
  taps : u.TapsLawful
  part : u.part = .stopping
  stop : u.stop = some r
  port : r.trunk = true
  left : ∀ m ∈ todo, m ∈ r.taps
  closed : ∀ m, m ∉ todo → (u.tap m).state = if m ∈ r.taps then .closing else .off

/-- The stop record without one tap. -/
def StopRecord.without (r : StopRecord) (k : TapNo) : StopRecord := { r with taps := r.taps.filter (· ≠ k) }

variable {r : StopRecord} {ks : List TapNo}

/-- A tap that is OFF reports, and the port has still to (R187). -/
theorem State.Closing.strike (h : u.Closing r (k :: ks)) (hk : k ∉ ks) (hoff : (u.tap k).state = .off) :
    (u.reportTap k).Closing (r.without k) ks := by
  have heq : u.reportTap k = { u with stop := some (r.without k) } :=
    State.report_left _ h.stop (by simp [StopRecord.isEmpty, h.port])
  rw [heq]
  refine ⟨?_, h.health, h.trunk, h.taps, h.part, rfl, h.port, fun m hm => ?_, fun m hm => ?_⟩
  · refine (h.kept.outer u.part (some (r.without k)) u.taps u.trunk).of_view rfl rfl (fun x => ?_) id
    exact State.awaits_congr (s := u) (t := { u with stop := some (r.without k) }) (by simp [h.stop]) rfl rfl x
  · have hne : m ≠ k := fun he => hk (he ▸ hm)
    simpa [StopRecord.without, hne] using h.left m (List.mem_cons_of_mem k hm)
  · change (u.tap m).state = _
    by_cases hmk : m = k
    · simp [hmk, hoff, StopRecord.without]
    · rw [h.closed m (by simp [hmk, hm])]
      simp [StopRecord.without, hmk]

/-- A tap that is CLOSING has still to report. -/
theorem State.Closing.leave (h : u.Closing r (k :: ks)) (hclosing : (u.tap k).state = .closing) : u.Closing r ks :=
  { h with
    left := fun m hm => h.left m (List.mem_cons_of_mem k hm)
    closed := fun m hm => by
      by_cases hmk : m = k
      · rw [hmk, hclosing, if_pos (h.left k List.mem_cons_self)]
      · exact h.closed m (by simp [hmk, hm]) }

/-- A tap that is still to be closed changes. -/
theorem State.Closing.changeTap (h : u.Closing r (k :: ks)) {f : Tap → Tap} (hl : (f (u.tap k)).Lawful)
    (hprogress : (f (u.tap k)).inProgress = (u.tap k).inProgress)
    (hparked : (f (u.tap k)).parkedClose = (u.tap k).parkedClose) (change : TapChange) :
    (u.changeTap k f change).Closing r (k :: ks) := by
  refine ⟨?_, h.health, h.trunk, fun m => ?_, h.part, h.stop, h.port, h.left, fun m hm => ?_⟩
  · exact State.Kept.storeEvent ((h.kept.view_modTap_same hprogress hparked).outer _ _ _ _) _
  · by_cases hmk : m = k
    · rw [hmk, State.changeTap, State.tap_storeEvent, State.tap_modTap_same]
      exact hl
    · rw [State.changeTap, State.tap_storeEvent, State.tap_modTap_other _ f hmk]
      exact h.taps m
  · have hmk : m ≠ k := fun he => hm (by simp [he])
    rw [State.changeTap, State.tap_storeEvent, State.tap_modTap_other _ f hmk]
    exact h.closed m hm

/-- The next tap is closed: OFF at once, or CLOSING with its frame in progress (R48, R186). -/
theorem State.Closing.closeForStop (h : u.Closing r (k :: ks)) (hk : k ∉ ks) : ∃ r', (u.closeForStop k).Closing r' ks := by
  unfold State.closeForStop
  split
  · next hoff => exact ⟨_, h.strike hk hoff⟩
  · next p _ hp =>
    have hunsync := (h.taps k).unsynchronised hp
    refine ⟨r, (h.changeTap (f := fun tap => { tap with state := .closing }) ?_ rfl rfl .closing).leave ?_⟩
    · simp [Tap.Lawful, hp, hunsync]
    · rw [State.changeTap, State.tap_storeEvent, State.tap_modTap_same]
  · next hclosing => exact ⟨r, h.leave hclosing⟩
  · next hoff hclosing hframe =>
    have hnot := (h.taps k).not_parked hclosing
    have hprogress := (h.taps k).no_frame hoff hclosing hframe
    refine ⟨_, (h.changeTap (f := Tap.turnedOff) ?_ rfl rfl .off).strike hk ?_⟩
    · simp [Tap.Lawful, Tap.turnedOff, hprogress, hnot]
    · rw [State.changeTap, State.tap_storeEvent, State.tap_modTap_same]
      rfl

theorem State.Closing.foldl (h : u.Closing r ks) (hks : ks.Nodup) : ∃ r', (ks.foldl State.closeForStop u).Closing r' [] := by
  induction ks generalizing u r with
  | nil => exact ⟨r, h⟩
  | cons k ks ih =>
    obtain ⟨hk, hks⟩ := List.nodup_cons.mp hks
    obtain ⟨r', h'⟩ := h.closeForStop hk
    exact ih h' hks

/-- The port is detached, and reports if it is DETACHED (R125, R186). -/
theorem State.Closing.detachForStop (h : u.Closing r []) : u.detachForStop.Sound := by
  have hbusy : ¬ (u.part = .booting ∨ u.part = .config) := by simp [h.part]
  have htaps (m : TapNo) : (u.tap m).state = if m ∈ r.taps then .closing else .off := h.closed m (by simp)
  have hpart : u.part = .stopping ↔ u.stop.isSome = true := by simp [h.part, h.stop]
  unfold State.detachForStop
  split
  · next hdetached =>
    refine State.Reporting.report ⟨h.kept, h.health, h.trunk, h.taps, fun hi => absurd hi hbusy⟩ ?_
    rw [h.stop] at hpart ⊢
    refine ⟨hpart, ?_, ?_, fun _ _ _ => hdetached⟩
    · rintro _ ⟨⟩
      exact htaps
    · rintro _ ⟨⟩
      exact nofun
  · next hattached =>
    obtain ⟨-, -, happart, hsync, -, hidle, hcount⟩ := h.trunk
    refine State.Kept.detachIfIdle ((h.kept.view_trunk_same rfl rfl rfl).outer _ _ _ _) (h.health.same rfl rfl id)
      ⟨fun hd => absurd hd hattached, happart, hsync, fun _ => rfl, hidle, hcount⟩ h.taps ⟨hpart, ?_⟩
      fun hi => absurd hi hbusy
    intro r' hr'
    obtain rfl : r = r' := Option.some.inj (h.stop.symm.trans hr')
    exact ⟨by simp [StopRecord.isEmpty, h.port], htaps, fun _ => rfl, by simp [h.port]⟩

/-- STOPPING begins with every tap still to be closed (R186). -/
theorem State.Sound.stopBegun (h : s.Sound) (hroom : s.Room) (hrun : s.part = .run) (request : Request) :
    (s.stopBegun request).Closing ⟨allTaps, true⟩ allTaps := by
  have hnone := h.ruled.stop_none (by simp [hrun])
  have hnew : ¬ s.view.waits .stop := by
    change ¬ s.stop.isSome = true
    simp [hnone]
  have hkept : (s.stopBegun request).Kept { s.view with waits := fun x => s.view.waits x ∨ x = .stop } :=
    State.Kept.park (State.Kept.storeEvent (h.kept.outer .stopping (some ⟨allTaps, true⟩) s.taps s.trunk) _) hroom request hnew
  refine ⟨hkept.of_view rfl rfl (fun x => ?_) (fun hi => ?_), h.ruled.health, h.ruled.trunk, h.ruled.taps, rfl, rfl, rfl,
    fun m hm => hm, fun m hm => ?_⟩
  · change (s.stopBegun request).awaits x ↔ s.awaits x ∨ x = .stop
    cases x with
    | closeTap m => simp [State.awaits, State.stopBegun, State.tap]
    | detach => simp [State.awaits, State.stopBegun]
    | stop => simp [State.awaits, State.stopBegun]
  · rcases hi with hi | hi <;> simp [State.stopBegun] at hi
  · exact absurd (by revert m; decide) hm

theorem State.Sound.beginStop (h : s.Sound) (hroom : s.Room) (hrun : s.part = .run) (request : Request) :
    (s.beginStop request).Sound := by
  have hclear (w : State) (hw : w.Sound) : State.Sound { w with engine := { w.engine with overtaken := none } } := by
    have hold := hw.kept.steady.replies
    exact hw.next (hw.kept.of_engine (line := w.line) rfl rfl ⟨hold.nodup, hold.waiting, hold.bounded, nofun⟩
      hw.kept.steady.session) rfl rfl rfl rfl
  obtain ⟨r, hclosed⟩ := (h.stopBegun hroom hrun request).foldl (by decide)
  rw [State.beginStop_eq]
  exact hclear _ hclosed.detachForStop

theorem State.Sound.runStop (h : s.Sound) (hroom : s.Room) (request : Request) : (s.runStop request).Sound := by
  unfold State.runStop
  split
  · next hrun => exact h.beginStop hroom hrun request
  · exact h.refuse hroom request _ _
  · exact h.answer hroom request _ _ _
  · exact h.answer hroom request _ _ _

end Sys2Proof.Machine
end

section
/-! SUPPORT. Every command keeps the laws. -/

namespace Sys2Proof.Machine

variable {s t : State}

/-- Every command keeps the laws but for the ranges and capacities, which it uses. -/
theorem State.Sound.exec (h : s.Sound) (hb : s.Bounded) {c : Instr} : exec c s = .next t → t.Sound := by
  cases c with
  | powerReset br1 br0 => exact of_next (State.Fresh.reset (strapRate br1 br0) s.pending).sound
  | memoryCheckCompleted correct => exact h.memoryCheckCompleted correct
  | tapStartOfFrame k => exact h.tapStartOfFrame k
  | tapEndOfFrame k bits => exact h.tapEndOfFrame k bits
  | tapIdleGap k => exact h.tapIdleGap k
  | tapResynchronised k => exact h.tapResynchronised k
  | trunkStartOfFrame => exact h.trunkStartOfFrame
  | trunkEndOfFrame bits => exact h.trunkEndOfFrame bits
  | trunkJoinIdleGap => exact h.trunkJoinIdleGap
  | trunkReceiverResync => exact h.trunkReceiverResync
  | transmitOpportunity => exact h.transmitOpportunity
  | outcomeSent read => exact h.outcomeSent read
  | outcomeLost read => exact h.outcomeLost read
  | outcomeFault read => exact h.outcomeFault hb.limit read
  | framingError => exact of_next (State.Sound.ite (fun _ => h) h.discardMessage)
  | badLength len => exact of_next (State.Sound.ite (fun _ => h.discardMessage) h)
  | gapExpiry => exact of_next (State.Sound.ite (fun _ => h) h.discardMessage)
  | messageReceived low => exact of_next (State.Sound.ite (fun _ => h.examine low) h)
  | lineBreak => exact h.lineBreak
  | outboundChoice => exact h.outboundChoice hb.window
  | replyCompleted br1 br0 => exact h.replyCompleted br1 br0
  | captureCompleted => exact h.captureCompleted
  | txDoneCompleted => exact h.txDoneCompleted
  | eventCompleted => exact h.eventCompleted
  | badRequest => exact of_next (h.serve (by decide) fun r _ hu hroom => hu.refuse hroom r _ _)
  | hello => exact of_next (h.serve (by decide) fun r _ hu hroom => hu.runHello hroom r)
  | status => exact of_next (h.serve (by decide) fun r _ hu hroom => hu.runStatus hroom r)
  | start => exact of_next (h.serve (by decide) fun r _ hu hroom => hu.runStart hroom r)
  | stop => exact of_next (h.serve (by decide) fun r _ hu hroom => hu.runStop hroom r)
  | reset => exact of_next h.reset
  | setTap => exact of_next (h.serve (by decide) fun r _ hu hroom => hu.runSetTap hroom r)
  | openTap => exact of_next (h.serve (by decide) fun r _ hu hroom => hu.runOpenTap hroom r)
  | closeTap => exact of_next (h.serve (by decide) fun r _ hu hroom => hu.runCloseTap hroom r)
  | setQuota => exact of_next (h.serve (by decide) fun r _ hu hroom => hu.runSetQuota hroom r)
  | setWindow => exact of_next (h.serve (by decide) fun r _ hu hroom => hu.runSetWindow hroom r)
  | setDefault => exact of_next (h.serve (by decide) fun r _ hu hroom => hu.runSetDefault hroom r)
  | readWindow => exact of_next (h.serve (by decide) fun r _ hu hroom => hu.runReadWindow hroom r)
  | commit => exact of_next (h.serve (by decide) fun r _ hu hroom => hu.runCommit hroom r)
  | discardStaged => exact of_next (h.serve (by decide) fun r _ hu hroom => hu.runDiscardStaged hroom r)
  | setRelay => exact of_next (h.serve (by decide) fun r _ hu hroom => hu.runSetRelay hroom r)
  | holdRelay => exact of_next (h.serve (by decide) fun r _ hu hroom => hu.setGate hroom r _)
  | releaseRelay => exact of_next (h.serve (by decide) fun r _ hu hroom => hu.setGate hroom r _)
  | flushRelay => exact of_next (h.serve (by decide) fun r _ hu hroom => hu.runFlushRelay hroom r)
  | send => exact h.send
  | cancel => exact of_next (h.serve (by decide) fun r _ hu hroom => hu.runCancel hroom r)
  | setTrunk => exact of_next (h.serve (by decide) fun r _ hu hroom => hu.runSetTrunk hroom r)
  | attach => exact of_next (h.serve (by decide) fun r _ hu hroom => hu.runAttach hroom r)
  | detach => exact of_next (h.serve (by decide) fun r _ hu hroom => hu.runDetach hroom r)
  | resume => exact of_next (h.serve (by decide) fun r _ hu hroom => hu.runResume hroom r)
  | grant => exact of_next h.grant
  | ack => exact of_next (h.serve (by decide) fun r _ hu hroom => hu.runAck hroom r)
  | resend => exact of_next (h.serve (by decide) fun r _ hu hroom => hu.runResend hroom r)
  | discardCaptures => exact of_next (h.serve (by decide) fun r _ hu hroom => hu.runDiscardCaptures hroom r)
  | byteReceived byte => exact of_next (State.Sound.ite (fun _ => h) (h.examine byte))

/-- The commands waiting and the stamp counter are no part of the laws. -/
theorem State.Sound.clock (h : s.Sound) (stamp : Word32) (pending : List Instr) :
    State.Sound { s with stamp := stamp, pending := pending } :=
  h.ruled.sound ⟨{ h.kept.steady with }, h.kept.store⟩ rfl rfl rfl rfl

/-- Settles O6: one group of laws is that of O8, the others are `State.Sound`, and every command keeps both. -/
theorem stepKeepsEveryLaw : Obligations.StepKeepsEveryLaw := by
  intro s t h hstep
  obtain ⟨hsettings, hqueues⟩ := stepKeepsRangesAndCapacities s t h.settings h.queues hstep
  refine State.Sound.lawful ?_ hsettings hqueues
  cases hp : s.pending with
  | nil =>
    rw [step_empty hp] at hstep
    exact of_next (h.sound.clock (s.stamp + 1) s.pending) hstep
  | cons c rest =>
    have hbounded : State.Bounded { s with pending := rest } :=
      { s.bounded_iff.mpr ⟨h.settings, h.queues⟩ with }
    rw [step, hp] at hstep
    exact (h.sound.clock s.stamp rest).exec hbounded hstep

end Sys2Proof.Machine
end

section
/-! SUPPORT. What a tap's end of frame and the idle gaps do, and the requests STATUS, OPEN_TAP, ATTACH, RESUME and CLOSE_TAP. -/

namespace Sys2Proof.Machine

/-! ## A tap changes -/

theorem State.modTap_eq (s : State) (t : TapNo) (f : Tap → Tap) :
    s.modTap t f = { s with taps := s.taps.set t (f (s.tap t)) } := rfl

theorem State.changeTap_eq (s : State) (t : TapNo) (f : Tap → Tap) (change : TapChange) :
    s.changeTap t f change =
      { s with taps := s.taps.set t (f (s.tap t)), events := s.events.push (.tapState t change) s.stamp } := rfl

/-- The end of a frame leaves the taps as they were, so a tap then changes from what it was before. -/
theorem State.endFrame_modTap (s : State) (i : IngressNo) (p : InProgress) (v : Verdict) (t : TapNo) (f : Tap → Tap) :
    (s.endFrame i p v).modTap t f = { s.endFrame i p v with taps := s.taps.set t (f (s.tap t)) } := by
  rw [State.modTap_eq, State.tap_endFrame, State.endFrame_taps]

/-- The event of that change stands behind those of the frame's end. -/
theorem State.endFrame_changeTap (s : State) (i : IngressNo) (p : InProgress) (v : Verdict) (t : TapNo) (f : Tap → Tap)
    (change : TapChange) :
    (s.endFrame i p v).changeTap t f change =
      { s.endFrame i p v with
        taps := s.taps.set t (f (s.tap t))
        events := (s.endFrame i p v).events.push (.tapState t change) s.stamp } := by
  simp only [State.changeTap_eq, State.tap_endFrame, State.endFrame_taps, State.endFrame_stamp]

/-! ## The end of a frame at a tap -/

section
variable {s : State} {t : TapNo} {p : InProgress} {bits : List Level} {v : Verdict}

theorem execTapEndOfFrame_listen (hp : (s.tap t).inProgress = some p) (hv : receive bits = some v)
    (hs : (s.tap t).state = .listen) :
    exec (.tapEndOfFrame t bits) s = .next ((s.endFrame (tapIngress t) p v).listenFrameEnd t v) := by
  simp only [exec, execTapEndOfFrame, hp, hv, hs]

theorem execTapEndOfFrame_closing (hp : (s.tap t).inProgress = some p) (hv : receive bits = some v)
    (hs : (s.tap t).state = .closing) :
    exec (.tapEndOfFrame t bits) s = .next ((s.endFrame (tapIngress t) p v).closingFrameEnd t) := by
  simp only [exec, execTapEndOfFrame, hp, hv, hs]

end

/-- A closing tap's frame has ended: OFF with its event, then the parked CLOSE_TAP, then the report (R46, R48, R189). -/
theorem State.closingFrameEnd_eq (s : State) (t : TapNo) :
    s.closingFrameEnd t =
      (if (s.tap t).parkedClose = true then
        (s.changeTap t Tap.closed .off).answerParked (.closeTap t) (s.closeTapResult t)
      else s.changeTap t Tap.closed .off).reportTap t := rfl

/-- Settles O28: in LISTEN by the verdict, in CLOSING by whether a CLOSE_TAP is parked. -/
theorem tapEndOfFrameEffects : Obligations.TapEndOfFrameEffects := by
  intro s t p bits v hp hv i handled off result
  have hlisten (hs : (s.tap t).state = .listen) :
      exec (.tapEndOfFrame t bits) s = .next (handled.listenFrameEnd t v) := execTapEndOfFrame_listen hp hv hs
  have hclosing (hs : (s.tap t).state = .closing) :
      exec (.tapEndOfFrame t bits) s = .next (handled.closingFrameEnd t) := execTapEndOfFrame_closing hp hv hs
  have hoff : handled.changeTap t Tap.closed .off = off := s.endFrame_changeTap i p v t _ _
  have hparked : (handled.tap t).parkedClose = (s.tap t).parkedClose := by rw [State.tap_endFrame]
  refine ⟨?_, ?_, ?_, fun hs hnone => ?_, fun hs hsome => ?_⟩
  · rintro hs ⟨f, rfl⟩
    rw [hlisten hs, State.listenFrameEnd, State.endFrame_modTap]
  · rintro hs rfl
    rw [hlisten hs, State.listenFrameEnd, State.endFrame_changeTap]
  · rintro hs ⟨found, rfl⟩
    rw [hlisten hs, State.listenFrameEnd, State.endFrame_changeTap]
  · rw [hclosing hs, State.closingFrameEnd_eq, hparked, if_neg (by simp [hnone]), hoff]
  · rw [hclosing hs, State.closingFrameEnd_eq, hparked, if_pos hsome, hoff]
    rfl

/-! ## Idle gaps -/

/-- Settles O29, gap by gap: the condition of each command holds, and what it writes is what the statement names. -/
theorem idleGapsCompleted : Obligations.IdleGapsCompleted := by
  intro s t
  refine ⟨fun hs => ?_, fun hs hsync hp => ?_, fun hs hp => ?_, fun hs hflight hp => ?_⟩
  · rw [exec, execTapIdleGap, if_pos hs]
    rfl
  · rw [exec, execTapResynchronised, if_pos ⟨hs, hsync, hp⟩, State.modTap_eq, hs, hp]
  · rw [exec, execTrunkJoinIdleGap, if_pos ⟨hs, hp⟩]
    rfl
  · have hreceiving : s.trunk.state.receiving = true := by
      rcases hs with h | h | h <;> rw [h] <;> rfl
    rw [exec, execTrunkReceiverResync, if_pos ⟨hreceiving, hflight, hp⟩]

/-! ## STATUS -/

theorem ingressOrAll_ingress (i : IngressNo) : ingressOrAll (BitVec.ofNat 8 i.val) = some (some i) := by
  have hne : BitVec.ofNat 8 i.val ≠ 0xFF#8 := by revert i; decide
  rw [ingressOrAll, if_neg hne, indexOf_ofNat i (by decide)]
  rfl

theorem ingressOrAll_none {b : Byte} (h : 7 ≤ b.toNat) (hne : b ≠ 0xFF#8) : ingressOrAll b = none := by
  rw [ingressOrAll, if_neg hne, indexOf_none h]
  rfl

section
variable {s : State} {r : Request} {rest : List Request}

/-- STATUS, by what its subject names (R160, R161, R178). -/
theorem execStatus_checked {subject : Byte} (hr : s.Ready r rest) (hb : r.body = [0x02#8, subject]) :
    (ingressOrAll subject = none → exec .status s = .next (s.replied r rest .badValue 1 [])) ∧
      (ingressOrAll subject = some none → exec .status s = .next (s.replied r rest .ok 0 s.partStatus)) ∧
      ∀ i, ingressOrAll subject = some (some i) →
        exec .status s = .next (State.replied
          { s with ingresses := s.ingresses.set i { s.ingress i with dropsLatch := false } }
          r rest .ok 0 (s.ingressStatus i)) := by
  have hexec : exec .status s = .next ((s.taken rest).runStatus r) := by
    rw [exec, execStatus, State.serve_ready _ hr (hb ▸ requestOf_status subject)]
  rw [hexec]
  refine ⟨fun hx => congrArg _ ?_, fun hx => congrArg _ ?_, fun i hx => congrArg _ ?_⟩
  · have h : (s.taken rest).runStatus r = (s.taken rest).refuse r .badValue 1 := by
      simp only [State.runStatus, hb, hx, needField_none, State.afterCheck_error]
    exact h.trans (State.refuse_eq _ r .badValue 1)
  · have h : (s.taken rest).runStatus r = (s.taken rest).answer r .ok 0 (s.taken rest).partStatus := by
      simp only [State.runStatus, hb, hx, needField_some, State.afterCheck_ok]
    exact h.trans (State.answer_eq _ r .ok 0 _)
  · have h : (s.taken rest).runStatus r =
        ((s.taken rest).modIngress i fun g => { g with dropsLatch := false }).answer r .ok 0
          ((s.taken rest).ingressStatus i) := by
      simp only [State.runStatus, hb, hx, needField_some, State.afterCheck_ok]
    exact h.trans (State.answer_eq _ r .ok 0 _)

end

theorem allEntries_eq : allEntries = List.finRange 8 := by decide

theorem Relay.headStatus_eq (k : Relay) :
    k.headStatus = if k.queue = [] then [0x00#8, 0x00#8]
      else [BitVec.ofNat 8 k.headRecord.attempts, k.headRecord.passOvers] := by
  simp [Relay.headStatus, byteOf]

/-- Settles O49: the values of STATUS are those the model reports, and its subject decides which. -/
theorem statusReportsState : Obligations.StatusReportsState := by
  intro s r rest subject hr hb head
  obtain ⟨hrefused, hpart, hingress⟩ := execStatus_checked hr hb
  refine ⟨fun hall => ?_, fun i hi => ?_, fun h7 hne => hrefused (ingressOrAll_none h7 hne)⟩
  · subst hall
    rw [hpart rfl, State.partStatus, Relay.headStatus_eq, allEntries_eq, Delivery.sentCount, List.countP_eq_length_filter]
    rfl
  · subst hi
    rw [hingress i (ingressOrAll_ingress i), State.ingressStatus, Counters.bytes]
    simp only [List.append_assoc]
    rfl

/-! ## OPEN_TAP, ATTACH and RESUME -/

/-- What the checks of OPEN_TAP make of a tap (R38). -/
theorem State.checkOpenTap_code (s : State) (t : TapNo) :
    s.checkOpenTap (BitVec.ofNat 8 t.val) =
      if s.part = .run then
        if (s.tap t).parkedClose = true then .error (.busy, 0)
        else if (s.tap t).state = .off then .ok t else .error (.state, (s.tap t).state.code)
      else .error (.state, s.part.code) := by
  rw [State.checkOpenTap, indexOf_ofNat t (by decide)]
  simp only [needField_some, ok_bind]
  by_cases hrun : s.part = .run
  · rw [if_pos hrun, needState_ok _ hrun, ok_bind]
    by_cases hparked : (s.tap t).parkedClose = true
    · rw [if_pos hparked, hparked]; rfl
    · rw [if_neg hparked, Bool.eq_false_iff.mpr hparked]
      by_cases hoff : (s.tap t).state = .off
      · rw [if_pos hoff, needState_ok _ hoff]; rfl
      · rw [if_neg hoff, needState_error _ hoff]; rfl
  · rw [if_neg hrun, needState_error _ hrun, error_bind]

/-- What the checks of ATTACH make of the part and the port (R112). -/
theorem State.checkAttach_eq (s : State) :
    s.checkAttach =
      if s.part = .run then
        if s.trunk.state = .detached then .ok () else .error (.state, s.trunk.state.code)
      else .error (.state, s.part.code) := by
  rw [State.checkAttach]
  by_cases hrun : s.part = .run
  · rw [if_pos hrun, needState_ok _ hrun, ok_bind]
    by_cases hdetached : s.trunk.state = .detached
    · rw [if_pos hdetached, needState_ok _ hdetached]
    · rw [if_neg hdetached, needState_error _ hdetached]
  · rw [if_neg hrun, needState_error _ hrun, error_bind]

/-- What the checks of RESUME make of the port (R122). -/
theorem State.checkResume_eq (s : State) :
    s.checkResume =
      if s.trunk.detachPending = true then .error (.busy, 0)
      else if s.trunk.state = .suspended then .ok () else .error (.state, s.trunk.state.code) := by
  rw [State.checkResume]
  by_cases hpending : s.trunk.detachPending = true
  · rw [if_pos hpending, hpending]; rfl
  · rw [if_neg hpending, Bool.eq_false_iff.mpr hpending]
    by_cases hsuspended : s.trunk.state = .suspended
    · rw [if_pos hsuspended, needState_ok _ hsuspended]; rfl
    · rw [if_neg hsuspended, needState_error _ hsuspended]; rfl

section
variable {s : State} {r : Request} {rest : List Request}

/-- OPEN_TAP: refused as its checks say, or the tap is in SYNC with its event stored before the reply (R38). -/
theorem execOpenTap_checked {b1 : Byte} (hr : s.Ready r rest) (hb : r.body = [0x11#8, b1]) :
    (∀ x d, s.checkOpenTap b1 = .error (x, d) → exec .openTap s = .next (s.replied r rest x d [])) ∧
      ∀ t, s.checkOpenTap b1 = .ok t →
        exec .openTap s = .next ((s.changeTap t
          (fun tap => { tap with state := .sync, synchronised := false, idleCount := 0 }) .syncOpened).replied
          r rest .ok 0 [byteOf t.val, TapState.sync.code]) := by
  obtain ⟨hrefused, haccepted⟩ := State.serve_checked (act := fun r s => s.runOpenTap r)
    (go := fun t => State.answer ((s.taken rest).changeTap t
      (fun tap => { tap with state := .sync, synchronised := false, idleCount := 0 }) .syncOpened) r .ok 0
      [byteOf t.val, TapState.sync.code])
    hr (hb ▸ requestOf_openTap b1) (by simp only [State.runOpenTap, hb]; rfl)
  refine ⟨fun x d hc => congrArg _ (hrefused x d hc), fun t hc => ?_⟩
  exact congrArg Host.Outcome.next ((haccepted t hc).trans (State.answer_eq _ r .ok 0 _))

/-- The trunk port is in JOINING with an empty history, its event stored (R112, R122). -/
def State.joining (s : State) (synchronised : Bool) : State :=
  State.storeEvent { s with trunk := s.trunk.joining synchronised } (.trunkState .joining 0)

/-- ATTACH: refused as its checks say, or the port is in JOINING (R112). -/
theorem execAttach_checked (hr : s.Ready r rest) (hb : r.body = [0x41#8]) :
    (∀ x d, s.checkAttach = .error (x, d) → exec .attach s = .next (s.replied r rest x d [])) ∧
      (s.checkAttach = .ok () →
        exec .attach s = .next ((s.joining false).replied r rest .ok 0 [TrunkState.joining.code])) := by
  obtain ⟨hrefused, haccepted⟩ := State.serve_checked (act := fun r s => s.runAttach r) (check := s.checkAttach)
    (go := fun _ => State.answer ((s.taken rest).joining false) r .ok 0 [TrunkState.joining.code])
    hr (hb ▸ requestOf_attach) rfl
  refine ⟨fun x d hc => congrArg _ (hrefused x d hc), fun hc => ?_⟩
  exact congrArg Host.Outcome.next ((haccepted () hc).trans (State.answer_eq _ r .ok 0 _))

/-- RESUME: refused as its checks say, or the port is in JOINING, as synchronised as it was (R122). -/
theorem execResume_checked (hr : s.Ready r rest) (hb : r.body = [0x43#8]) :
    (∀ x d, s.checkResume = .error (x, d) → exec .resume s = .next (s.replied r rest x d [])) ∧
      (s.checkResume = .ok () →
        exec .resume s = .next ((s.joining s.trunk.synchronised).replied r rest .ok 0 [TrunkState.joining.code])) := by
  obtain ⟨hrefused, haccepted⟩ := State.serve_checked (act := fun r s => s.runResume r) (check := s.checkResume)
    (go := fun _ => State.answer ((s.taken rest).joining s.trunk.synchronised) r .ok 0 [TrunkState.joining.code])
    hr (hb ▸ requestOf_resume) rfl
  refine ⟨fun x d hc => congrArg _ (hrefused x d hc), fun hc => ?_⟩
  exact congrArg Host.Outcome.next ((haccepted () hc).trans (State.answer_eq _ r .ok 0 _))

end

/-- Settles O52, request by request: the first check that fails, or the tap or the port joins its line. -/
theorem openAttachResume : Obligations.OpenAttachResume := by
  intro s r rest b1 hr joining
  refine ⟨fun hb => ?_, fun hb => ?_, fun hb => ?_⟩
  · obtain ⟨hrefused, haccepted⟩ := execOpenTap_checked hr hb
    refine ⟨fun h1 => hrefused _ _ (by rw [State.checkOpenTap, indexOf_none h1]; rfl), fun t h1 => ?_⟩
    subst h1
    rw [State.checkOpenTap_code] at hrefused haccepted
    refine ⟨fun hrun => hrefused _ _ (if_neg hrun), fun hrun hparked => hrefused _ _ ?_,
      fun hrun hparked hoff => hrefused _ _ ?_, fun hrun hparked hoff => ?_⟩
    · rw [if_pos hrun, if_pos hparked]
    · rw [if_pos hrun, if_neg (by simp [hparked]), if_neg hoff]
    · rw [haccepted t (by rw [if_pos hrun, if_neg (by simp [hparked]), if_pos hoff]), State.changeTap_eq, hparked]
      rfl
  · obtain ⟨hrefused, haccepted⟩ := execAttach_checked hr hb
    rw [State.checkAttach_eq] at hrefused haccepted
    refine ⟨fun hrun => hrefused _ _ (if_neg hrun), fun hrun hs => hrefused _ _ ?_, fun hrun hs => haccepted ?_⟩
    · rw [if_pos hrun, if_neg hs]
    · rw [if_pos hrun, if_pos hs]
  · obtain ⟨hrefused, haccepted⟩ := execResume_checked hr hb
    rw [State.checkResume_eq] at hrefused haccepted
    refine ⟨fun hpending => hrefused _ _ (if_pos hpending), fun hpending hs => hrefused _ _ ?_,
      fun hpending hs => haccepted ?_⟩
    · rw [if_neg (by simp [hpending]), if_neg hs]
    · rw [if_neg (by simp [hpending]), if_pos hs]

/-! ## CLOSE_TAP -/

section
variable {s : State} {t : TapNo}

theorem State.closeTap_off (r : Request) (hs : (s.tap t).state = .off) :
    s.closeTap r t = s.answer r .ok 0 (s.closeTapResult t) := by
  simp only [State.closeTap, hs]

/-- A tap in SYNC, or in LISTEN without a frame, is closed at once (R44). -/
theorem State.closeTap_atOnce (r : Request)
    (hs : (s.tap t).state = .sync ∨ ((s.tap t).state = .listen ∧ (s.tap t).inProgress = none)) :
    s.closeTap r t = s.closeNow r t := by
  rcases hs with hs | ⟨hs, hp⟩
  · simp only [State.closeTap, hs]
  · simp only [State.closeTap, hs, hp]

theorem State.closeTap_frame (r : Request) (hs : (s.tap t).state = .listen) (hp : (s.tap t).inProgress.isSome = true) :
    s.closeTap r t =
      (s.changeTap t (fun tap => { tap with state := .closing, parkedClose := true }) .closing).park r (.closeTap t) := by
  obtain ⟨p, hp⟩ := Option.isSome_iff_exists.mp hp
  simp only [State.closeTap, hs, hp]

/-- A tap that STOP is closing takes one CLOSE_TAP, and a second one finds it parked (R47). -/
theorem State.closeTap_unparked (r : Request) (hs : (s.tap t).state = .closing) (hparked : (s.tap t).parkedClose = false) :
    s.closeTap r t = (s.modTap t fun tap => { tap with parkedClose := true }).park r (.closeTap t) := by
  simp [State.closeTap, hs, hparked]

theorem State.closeTap_parked (r : Request) (hs : (s.tap t).state = .closing) (hparked : (s.tap t).parkedClose = true) :
    s.closeTap r t = s.refuse r .busy 0 := by
  simp [State.closeTap, hs, hparked]

end

/-- CLOSE_TAP: refused if its field names no tap, or `State.closeTap` of the tap it names. -/
theorem execCloseTap_checked {s : State} {r : Request} {rest : List Request} {b1 : Byte} (hr : s.Ready r rest)
    (hb : r.body = [0x12#8, b1]) :
    (indexOf 6 b1 = none → exec .closeTap s = .next (s.replied r rest .badValue 1 [])) ∧
      ∀ t, indexOf 6 b1 = some t → exec .closeTap s = .next ((s.taken rest).closeTap r t) := by
  obtain ⟨hrefused, haccepted⟩ := State.serve_checked (act := fun r s => s.runCloseTap r)
    (check := needField 1 (indexOf Config.tapCount b1)) (go := fun t => (s.taken rest).closeTap r t)
    hr (hb ▸ requestOf_closeTap b1) (by simp only [State.runCloseTap, hb])
  refine ⟨fun hnone => congrArg _ (hrefused _ _ ?_), fun t ht => congrArg _ (haccepted t ?_)⟩
  · rw [hnone, needField_none]
  · rw [ht, needField_some]

/-- Settles O53, by the state of the tap and, in CLOSING, by whether a CLOSE_TAP is parked. -/
theorem closeTapByState : Obligations.CloseTapByState := by
  intro s r rest b1 hr hb
  obtain ⟨hrefused, haccepted⟩ := execCloseTap_checked hr hb
  refine ⟨fun h1 => hrefused (indexOf_none h1), fun t h1 => ?_⟩
  subst h1
  intro result off atOnce
  rw [haccepted t (indexOf_ofNat t (by decide))]
  refine ⟨fun hs => ?_, fun hs => ?_, fun hs hp => ?_, fun hs hparked => ?_, fun hs hparked => ?_⟩
  · rw [State.closeTap_off (s := s.taken rest) r hs, State.answer_eq]
    rfl
  · rw [State.closeTap_atOnce (s := s.taken rest) r hs, State.closeNow, State.answer_eq]
    rfl
  · rw [State.closeTap_frame (s := s.taken rest) r hs hp, State.park_eq]
    rfl
  · rw [State.closeTap_parked (s := s.taken rest) r hs hparked, State.refuse_eq]
    rfl
  · rw [State.closeTap_unparked (s := s.taken rest) r hs hparked, State.park_eq]
    rfl

end Sys2Proof.Machine
end

section
/-! SUPPORT. STOP in RUN, as one write to the state: what it makes of each tap and of the trunk port, and when it completes
within its own execution. -/

namespace Sys2Proof.Machine

/-! ## What STOP makes of a tap -/

/-- STOP lets a frame in progress end (R48). -/
def Tap.closes (tap : Tap) : Bool := tap.state = .listen && tap.inProgress.isSome

/-- Without a frame in progress a tap is OFF at once (R48). -/
def Tap.turnsOff (tap : Tap) : Bool := tap.state = .sync || (tap.state = .listen && tap.inProgress.isNone)

/-- The tap as STOP leaves it. -/
def Tap.stopped (tap : Tap) : Tap :=
  if tap.closes then { tap with state := .closing } else if tap.turnsOff then tap.turnedOff else tap

/-- The event that STOP stores for a tap. -/
def State.stopEvent (s : State) (k : TapNo) : Option EventInfo :=
  if (s.tap k).closes then some (.tapState k .closing) else if (s.tap k).turnsOff then some (.tapState k .off) else none

/-- Storing events one after another. -/
def EventQueue.pushAll (q : EventQueue) (infos : List EventInfo) (stamp : Word32) : EventQueue :=
  infos.foldl (fun q info => q.push info stamp) q

theorem EventQueue.pushAll_append (q : EventQueue) (xs ys : List EventInfo) (stamp : Word32) :
    q.pushAll (xs ++ ys) stamp = (q.pushAll xs stamp).pushAll ys stamp := List.foldl_append

theorem Tap.stopped_inProgress (tap : Tap) : tap.stopped.inProgress = tap.inProgress := by
  unfold Tap.stopped
  split
  · rfl
  · split <;> rfl

/-- STOP has closed one tap; `taps` is what the stop record named before, and the port has still to report (R186, R187). -/
def State.tapStopped (s : State) (taps : List TapNo) (k : TapNo) : State :=
  { s with
    taps := s.taps.set k (s.tap k).stopped
    stop := some ⟨if (s.tap k).inProgress.isSome then taps else taps.filter (· ≠ k), true⟩
    events := s.events.pushAll (s.stopEvent k).toList s.stamp }

/-- STOP has closed the taps in `ks`. -/
def State.tapsStopped (s : State) (taps ks : List TapNo) : State :=
  { s with
    taps := Vector.ofFn fun t => if t ∈ ks then (s.tap t).stopped else s.tap t
    stop := some ⟨taps.filter fun t => t ∉ ks ∨ (s.tap t).inProgress.isSome = true, true⟩
    events := s.events.pushAll (ks.filterMap s.stopEvent) s.stamp }

section
variable {s : State} {k : TapNo} {taps ks : List TapNo}

/-- A tap is closed, whatever its state: its record, its event, and its report if no frame is in progress (R48, R187). -/
theorem State.closeForStop_eq (hstop : s.stop = some ⟨taps, true⟩) (hk : (s.tap k).Lawful) :
    s.closeForStop k = s.tapStopped taps k := by
  have hreport (u : State) (hu : u.stop = some ⟨taps, true⟩) :
      u.reportTap k = { u with stop := some ⟨taps.filter (· ≠ k), true⟩ } :=
    State.report_left _ hu (by simp [StopRecord.isEmpty])
  have hstays : s.taps.set k (s.tap k) = s.taps := set_get_self _ _
  have hchanged (f : Tap → Tap) (c : TapChange) := hreport (s.changeTap k f c) hstop
  obtain ⟨hnone, hsome, -, -⟩ := id hk
  unfold State.closeForStop State.tapStopped State.stopEvent Tap.stopped
  split
  · next hs =>
    simp [Tap.closes, Tap.turnsOff, hs, hnone (.inl hs), hreport s hstop, hstays, EventQueue.pushAll]
  · next hs hp =>
    simp [Tap.closes, hs, hp, ← hstop, State.changeTap_eq, EventQueue.pushAll]
  · next hs =>
    simp [Tap.closes, Tap.turnsOff, hs, hsome hs, ← hstop, hstays, EventQueue.pushAll]
  · next hoff hclosing hframe =>
    have hp := hk.no_frame hoff hclosing hframe
    have hidle : (s.tap k).closes = false := by simp [Tap.closes, hp]
    have hopen : (s.tap k).turnsOff = true := by
      cases hs : (s.tap k).state with
      | off => exact absurd hs hoff
      | sync => simp [Tap.turnsOff, hs]
      | listen => simp [Tap.turnsOff, hs, hp]
      | closing => exact absurd hs hclosing
    rw [hchanged, hidle, hopen, hp]
    rfl

theorem State.tap_tapStopped (s : State) (taps : List TapNo) (k t : TapNo) :
    (s.tapStopped taps k).tap t = if t = k then (s.tap k).stopped else s.tap t := by
  split
  · next h => rw [h]; exact get_set_same _ _ _
  · next h => exact get_set_other _ _ h

theorem State.inProgress_tapStopped (s : State) (taps : List TapNo) (k t : TapNo) :
    ((s.tapStopped taps k).tap t).inProgress = (s.tap t).inProgress := by
  rw [State.tap_tapStopped]
  split
  · next h => rw [h, Tap.stopped_inProgress]
  · rfl

theorem State.stopEvent_tapStopped (s : State) (taps : List TapNo) {k m : TapNo} (h : m ≠ k) :
    (s.tapStopped taps k).stopEvent m = s.stopEvent m := by
  rw [State.stopEvent, State.tap_tapStopped, if_neg h]
  rfl

/-- One tap, then others: all of them are closed. -/
theorem State.tapStopped_tapsStopped (hk : k ∉ ks) {left : List TapNo}
    (hleft : (s.tapStopped taps k).stop = some ⟨left, true⟩) :
    (s.tapStopped taps k).tapsStopped left ks = s.tapsStopped taps (k :: ks) := by
  have htap (t : TapNo) : (if t ∈ ks then ((s.tapStopped taps k).tap t).stopped else (s.tapStopped taps k).tap t) =
      if t ∈ k :: ks then (s.tap t).stopped else s.tap t := by
    rw [State.tap_tapStopped]
    by_cases ht : t = k
    · simp [ht, hk]
    · simp [ht]
  have hstop : (left.filter fun t => t ∉ ks ∨ ((s.tapStopped taps k).tap t).inProgress.isSome = true) =
      taps.filter fun t => t ∉ k :: ks ∨ (s.tap t).inProgress.isSome = true := by
    simp only [State.inProgress_tapStopped]
    obtain rfl : (if (s.tap k).inProgress.isSome then taps else taps.filter (· ≠ k)) = left := by
      simpa [State.tapStopped] using hleft
    split
    · next hp =>
      refine List.filter_congr fun t _ => ?_
      by_cases ht : t = k <;> simp [ht, hp]
    · next hp =>
      rw [List.filter_filter]
      refine List.filter_congr fun t _ => ?_
      by_cases ht : t = k <;> simp [ht, hp]
  have hevents : (s.tapStopped taps k).events.pushAll (ks.filterMap (s.tapStopped taps k).stopEvent) s.stamp =
      s.events.pushAll ((k :: ks).filterMap s.stopEvent) s.stamp := by
    have hothers : ks.filterMap (s.tapStopped taps k).stopEvent = ks.filterMap s.stopEvent :=
      List.filterMap_congr fun m hm => s.stopEvent_tapStopped taps fun he => hk (he ▸ hm)
    rw [hothers, State.tapStopped, ← EventQueue.pushAll_append, List.filterMap_cons]
    cases s.stopEvent k <;> rfl
  simp only [State.tapsStopped, htap, hstop, ← hevents]
  rfl

/-- The taps are closed one after another (R186). -/
theorem State.foldl_closeForStop (hks : ks.Nodup) (hstop : s.stop = some ⟨taps, true⟩)
    (hlaw : ∀ k ∈ ks, (s.tap k).Lawful) :
    ks.foldl State.closeForStop s = s.tapsStopped taps ks := by
  induction ks generalizing s taps with
  | nil =>
    have htaps : (Vector.ofFn fun t => s.tap t) = s.taps := by
      ext i hi
      simp [State.tap, Vector.get]
    simp [State.tapsStopped, htaps, ← hstop, EventQueue.pushAll]
  | cons k ks ih =>
    obtain ⟨hk, hks⟩ := List.nodup_cons.mp hks
    rw [List.foldl_cons, State.closeForStop_eq hstop (hlaw k (by simp)), ih hks rfl, State.tapStopped_tapsStopped hk rfl]
    intro m hm
    have hmk : m ≠ k := fun he => hk (he ▸ hm)
    rw [State.tap_tapStopped, if_neg hmk]
    exact hlaw m (by simp [hm])

end

/-! ## What STOP makes of the trunk port -/

/-- An attempt is in flight or a frame in progress. -/
def Trunk.busy (k : Trunk) : Bool := k.inFlight.isSome || k.inProgress.isSome

theorem Trunk.busy_eq_false {k : Trunk} : k.busy = false ↔ k.inFlight = none ∧ k.inProgress = none := by
  simp [Trunk.busy]

/-- A detach is pending (R123). -/
def State.detachAsked (s : State) : State := { s with trunk := { s.trunk with detachPending := true } }

/-- A detach that completes with no DETACH parked (R124). -/
theorem State.completeDetach_unparked {s : State} (h : s.trunk.parkedDetach = false) :
    s.completeDetach =
      (State.storeEvent { s with trunk := s.trunk.detached } (.trunkState .detached 0)).reportTrunk := by
  rw [State.completeDetach, h]
  rfl

/-- STOP has detached the trunk port, or has its detach pending; `taps` is what the stop record has left (R125, R187). -/
def State.portStopped (s : State) (taps : List TapNo) : State :=
  let detaches : Bool := s.trunk.state ≠ .detached && !s.trunk.busy
  { s with
    trunk :=
      if s.trunk.busy then { s.trunk with detachPending := true }
      else if detaches then s.trunk.detached
      else s.trunk
    stop := some ⟨taps, s.trunk.busy⟩
    events := s.events.pushAll (if detaches then [.trunkState .detached 0] else []) s.stamp }

theorem foldl_entryDone_withStop (es : List EntryNo) (o : EntryOutcome) (x : Option StopRecord) (s : State) :
    es.foldl (fun s e => s.entryDone e o) { s with stop := x } =
      { es.foldl (fun s e => s.entryDone e o) s with stop := x } := by
  induction es generalizing s with
  | nil => rfl
  | cons e es ih => exact ih (s.entryDone e o)

/-- STOP completes the same whatever its record holds. -/
theorem State.completeStop_withStop (s : State) (x : Option StopRecord) :
    State.completeStop { s with stop := x } = s.completeStop := by
  have h : State.entriesStopped { s.relayEmptied with stop := x } = { s.relayEmptied.entriesStopped with stop := x } :=
    foldl_entryDone_withStop _ _ _ _
  rw [State.completeStop_eq, State.completeStop_eq]
  change (State.storeEvent { State.entriesStopped { s.relayEmptied with stop := x } with
    relay := { (State.entriesStopped { s.relayEmptied with stop := x }).relay with gate := .opened }
    part := .config, stop := none } _).answerParked _ _ = _
  rw [h]
  rfl

section
variable {s : State} {taps : List TapNo}

/-- The port reports last: something is left to report, or STOP completes (R187). -/
theorem State.reportTrunk_eq (hstop : s.stop = some ⟨taps, true⟩) :
    s.reportTrunk =
      if taps = [] then s.completeStop.markOvertaken else { s with stop := some ⟨taps, false⟩ } := by
  split
  · next h => exact State.report_last _ hstop (by simp [StopRecord.isEmpty, h])
  · next h => exact State.report_left _ hstop (by simp [StopRecord.isEmpty, h])

/-- The port is detached, by what is on its line; STOP completes here if nothing is left to report (R125, R187, R188). -/
theorem State.detachForStop_eq (hstop : s.stop = some ⟨taps, true⟩)
    (hdetached : s.trunk.state = .detached → s.trunk.busy = false)
    (hparked : s.trunk.busy = false → s.trunk.parkedDetach = false) :
    s.detachForStop =
      if taps = [] ∧ s.trunk.busy = false then (s.portStopped taps).completeStop.markOvertaken else s.portStopped taps := by
  have hreports (u : State) (hu : u.stop = some ⟨taps, true⟩)
      (hw : { u with stop := some ⟨taps, false⟩ } = s.portStopped taps) (hbusy : s.trunk.busy = false) :
      u.reportTrunk =
        if taps = [] ∧ s.trunk.busy = false then (s.portStopped taps).completeStop.markOvertaken else s.portStopped taps := by
    rw [State.reportTrunk_eq hu, ← hw, u.completeStop_withStop (some ⟨taps, false⟩)]
    simp only [hbusy, and_true]
  unfold State.detachForStop
  split
  · next hd =>
    refine hreports s hstop ?_ (hdetached hd)
    simp [State.portStopped, hdetached hd, hd, EventQueue.pushAll]
  · next hattached =>
    rcases Bool.eq_false_or_eq_true s.trunk.busy with hbusy | hbusy
    · have hline : s.trunk.inFlight.isSome = true ∨ s.trunk.inProgress.isSome = true := by simpa [Trunk.busy] using hbusy
      refine (State.detachIfIdle_busy (s := s.detachAsked) (.inr hline)).trans ?_
      simp [State.portStopped, State.detachAsked, hbusy, ← hstop, EventQueue.pushAll]
    · obtain ⟨hflight, hprogress⟩ := Trunk.busy_eq_false.mp hbusy
      refine (State.detachIfIdle_idle (s := s.detachAsked) rfl hflight hprogress).trans ?_
      rw [State.completeDetach_unparked (s := s.detachAsked) (hparked hbusy)]
      refine hreports _ hstop ?_ hbusy
      simp [State.portStopped, hbusy, hattached, EventQueue.pushAll, State.storeEvent, State.detachAsked, Trunk.detached]

/-- On a DETACHED port nothing is on the line (R119). -/
theorem State.Lawful.detached_not_busy (h : s.Lawful) (hd : s.trunk.state = .detached) : s.trunk.busy = false := by
  obtain ⟨hquiet, -⟩ := h.trunk
  obtain ⟨-, hflight, -⟩ := h.health
  have hnone : s.trunk.inFlight = none := by
    by_contra hsome
    have htransmits := hflight (Option.isSome_iff_ne_none.mpr hsome)
    simp [hd, TrunkState.transmitting] at htransmits
  exact Trunk.busy_eq_false.mpr ⟨hnone, (hquiet hd).1⟩

/-- A DETACH is parked only over an attempt or a frame (R123). -/
theorem State.Lawful.not_parked_of_idle (h : s.Lawful) (hbusy : s.trunk.busy = false) : s.trunk.parkedDetach = false := by
  obtain ⟨hflight, hprogress⟩ := Trunk.busy_eq_false.mp hbusy
  exact h.trunk.not_parked (h.trunk.not_pending hflight hprogress)

end

/-! ## STOP as a whole -/

theorem mem_allTaps (t : TapNo) : t ∈ allTaps := by revert t; decide

theorem State.answerParked_overtaken (s : State) (subject : ParkedSubject) (result : List Byte) :
    (s.answerParked subject result).engine.overtaken = s.engine.overtaken := by
  unfold State.answerParked
  split
  · rfl
  · rw [State.produceReply_overtaken]

theorem State.completeStop_overtaken (s : State) : s.completeStop.engine.overtaken = s.engine.overtaken := by
  rw [State.completeStop_eq, State.answerParked_overtaken]
  change s.relayEmptied.entriesStopped.engine.overtaken = _
  rw [State.entriesStopped, State.foldl_entryDone_engine]
  rfl

theorem State.overtaken_cleared {s : State} (h : s.engine.overtaken = none) :
    { s with engine := { s.engine with overtaken := none } } = s := by
  rw [← h]

/-- Where no reply was overtaken before, a STOP that completes within its own execution leaves none (R194). -/
theorem State.markOvertaken_cleared {s : State} (h : s.engine.overtaken = none) :
    { s.markOvertaken with engine := { s.markOvertaken.engine with overtaken := none } } = s := by
  unfold State.markOvertaken
  split <;> exact State.overtaken_cleared h

section
variable {s : State} {r : Request} {rest : List Request}

/-- Before a STOP no reply stands overtaken, since the oldest request would then be a RESET (R194). -/
theorem State.Lawful.not_overtaken (h : s.Lawful) (hr : s.Ready r rest) (hcode : requestOf r.body = some .stop) :
    s.engine.overtaken = none := by
  obtain ⟨-, -, -, hinbox⟩ := hr
  obtain ⟨-, -, -, -, -, hover⟩ := h.replies
  refine Option.eq_none_iff_forall_not_mem.mpr fun x hx => ?_
  simpa [hinbox, hcode] using (hover x hx).2

/-- The taps with a frame in progress, which STOP waits for. -/
def State.occupiedTaps (s : State) : List TapNo := allTaps.filter fun t => (s.tap t).inProgress.isSome

/-- The part with its taps closed and its trunk port detached by the STOP `r`. -/
def State.closedByStop (s : State) (r : Request) (rest : List Request) : State :=
  (((s.taken rest).stopBegun r).tapsStopped allTaps allTaps).portStopped s.occupiedTaps

/-- STOP in RUN closes the taps and detaches the port, and completes if that leaves nothing to report (R186, R188). -/
theorem State.Lawful.beginStop_closes (h : s.Lawful) (hr : s.Ready r rest) (hcode : requestOf r.body = some .stop) :
    (s.taken rest).beginStop r =
      if s.occupiedTaps = [] ∧ s.trunk.busy = false then (s.closedByStop r rest).completeStop else s.closedByStop r rest := by
  have htaps : allTaps.foldl State.closeForStop ((s.taken rest).stopBegun r) =
      ((s.taken rest).stopBegun r).tapsStopped allTaps allTaps :=
    State.foldl_closeForStop (by decide) rfl fun k _ => h.taps k
  have hleft : (((s.taken rest).stopBegun r).tapsStopped allTaps allTaps).stop = some ⟨s.occupiedTaps, true⟩ := by
    have hfilter : (allTaps.filter fun t => t ∉ allTaps ∨ (s.tap t).inProgress.isSome = true) = s.occupiedTaps :=
      List.filter_congr fun t ht => by simp [ht]
    rw [← hfilter]
    rfl
  have hover : (s.closedByStop r rest).engine.overtaken = none := h.not_overtaken hr hcode
  have hclosed : ((s.taken rest).stopBegun r).allClosed =
      if s.occupiedTaps = [] ∧ s.trunk.busy = false then (s.closedByStop r rest).completeStop.markOvertaken
      else s.closedByStop r rest := by
    rw [State.allClosed, htaps]
    exact State.detachForStop_eq hleft h.detached_not_busy h.not_parked_of_idle
  rw [State.beginStop_eq, hclosed]
  split
  · exact State.markOvertaken_cleared (by rw [State.completeStop_overtaken, hover])
  · exact State.overtaken_cleared hover

end

/-- Settles O50: in RUN the taps are closed one after another (`State.foldl_closeForStop`), then the port
(`State.detachForStop_eq`). -/
theorem stopClosesEverything : Obligations.StopClosesEverything := by
  intro s r rest hr hb closes turnsOff busy detaches occupied tapEvents trunkEvents stopping
  have hcode : requestOf r.body = some .stop := hb ▸ requestOf_stop
  have hexec : exec .stop s = .next ((s.taken rest).runStop r) := by
    rw [exec, execStop, State.serve_ready _ hr hcode]
  have hclosed : s.closedByStop r rest = stopping.parkedNow r rest .stop := by
    have htaps : (Vector.ofFn fun t => if t ∈ allTaps then (s.tap t).stopped else s.tap t) = stopping.taps := by
      simp only [mem_allTaps, if_true]
      rfl
    have hevents : ((s.events.push (.partState .stopping) s.stamp).pushAll (allTaps.filterMap s.stopEvent) s.stamp).pushAll
        trunkEvents s.stamp = stopping.events := by
      rw [← EventQueue.pushAll_append]
      rfl
    have hfields : s.closedByStop r rest = State.parkedNow
        { stopping with
          taps := Vector.ofFn fun t => if t ∈ allTaps then (s.tap t).stopped else s.tap t
          events := ((s.events.push (.partState .stopping) s.stamp).pushAll (allTaps.filterMap s.stopEvent) s.stamp).pushAll
            trunkEvents s.stamp } r rest .stop := rfl
    rw [hfields, htaps, hevents]
  have hrun (hl : s.Lawful) (hpart : s.part = .run) :
      (s.taken rest).runStop r =
        if occupied = [] ∧ busy = false then (stopping.parkedNow r rest .stop).completeStop
        else stopping.parkedNow r rest .stop := by
    have h : (s.taken rest).runStop r = (s.taken rest).beginStop r := by simp only [State.runStop, hpart]
    rw [h, hl.beginStop_closes hr hcode, hclosed]
    rfl
  rw [hexec]
  refine ⟨fun hpart => congrArg _ ?_, fun hpart => congrArg _ ?_, fun hl hpart hleft => congrArg _ ?_,
    fun hl hpart hnone hidle => congrArg _ ?_⟩
  · have h : (s.taken rest).runStop r = (s.taken rest).answer r .ok 0 [0x00#8, 0x00#8] := by
      simp only [State.runStop, hpart]
    exact h.trans (State.answer_eq _ r .ok 0 _)
  · have h : (s.taken rest).runStop r = (s.taken rest).refuse r .busy 0 := by simp only [State.runStop, hpart]
    exact h.trans (State.refuse_eq _ r .busy 0)
  · rw [hrun hl hpart, if_neg]
    rintro ⟨hnone, hidle⟩
    rcases hleft with hsome | hbusy
    · exact hsome hnone
    · simp [hidle] at hbusy
  · rw [hrun hl hpart, if_pos ⟨hnone, hidle⟩]

end Sys2Proof.Machine
end

section
/-! SUPPORT. The search of a window table (R59 to R61), and the classification of a stored frame row by row (R76). -/

namespace Sys2Proof.Machine

/-! ## The hit test and the search -/

theorem Kinds.accepts_iff (k : Kinds) (x : FrameKind) : k.accepts x = true ↔ k = .any ∨ k.code = x.code := by
  cases k <;> cases x <;> decide

/-- The four parts of the hit test (R59). -/
theorem Window.hits_iff (w : Window) (f : Frame) :
    w.hits f = true ↔
      w.enabled = true ∧ f.tag &&& w.mask = w.matchTag ∧ (w.kinds = .any ∨ w.kinds.code = f.kind.code) ∧
        f.length ≤ w.longest := by
  simp only [Window.hits, Bool.and_eq_true, beq_iff_eq, decide_eq_true_eq, Kinds.accepts_iff, and_assoc]

/-- Without a hit the search finds no window. -/
theorem firstHit_eq_none {f : Frame} {ws : List Window} (h : ∀ w ∈ ws, w.hits f = false) (k : Nat) :
    firstHit f k ws = none := by
  induction ws generalizing k with
  | nil => rfl
  | cons w ws ih =>
    obtain ⟨hw, hws⟩ := List.forall_mem_cons.mp h
    rw [firstHit, hw, if_neg Bool.false_ne_true, ih hws]

/-- The search ends at a window that hits behind windows that do not (R60). -/
theorem firstHit_eq_some {f : Frame} {w : Window} (hw : w.hits f = true) {ws : List Window} {j : Nat}
    (hj : ws[j]? = some w) (hbefore : ∀ i < j, ∀ v, ws[i]? = some v → v.hits f = false) (k : Nat) :
    firstHit f k ws = some (k + j, w) := by
  induction ws generalizing j k with
  | nil => simp at hj
  | cons v ws ih =>
    cases j with
    | zero =>
      obtain rfl : v = w := by simpa using hj
      rw [firstHit, if_pos hw]
      rfl
    | succ j =>
      have hv : v.hits f = false := hbefore 0 (Nat.succ_pos j) v rfl
      rw [firstHit, hv, if_neg Bool.false_ne_true, ih (by simpa using hj) fun i hi u hu => ?_]
      · rw [Nat.add_right_comm, Nat.add_assoc]
      · exact hbefore (i + 1) (Nat.succ_lt_succ hi) u (by simpa using hu)

/-- The windows of a table in index order. -/
theorem Table.windows_getElem? (t : Table) (k : WindowNo) : t.windows.toList[k.val]? = some (t.windows.get k) := by
  simp [Vector.get]

/-- The windows of a table are those with an index. -/
theorem Table.exists_index {t : Table} {i : Nat} {w : Window} (h : t.windows.toList[i]? = some w) :
    ∃ k : WindowNo, k.val = i ∧ t.windows.get k = w := by
  obtain ⟨hi, rfl⟩ := List.getElem?_eq_some_iff.mp h
  exact ⟨⟨i, by simpa using hi⟩, rfl, by simp [Vector.get]⟩

/-- The first window that hits places the frame (R60). -/
theorem Table.place_first {t : Table} {f : Frame} {k : WindowNo} (hit : (t.windows.get k).hits f = true)
    (hbefore : ∀ j : WindowNo, j < k → (t.windows.get j).hits f = false) :
    t.place f = ⟨(t.windows.get k).targets, (t.windows.get k).tagOut f.tag, k.val⟩ := by
  have hfound : firstHit f 0 t.windows.toList = some (0 + k.val, t.windows.get k) := by
    refine firstHit_eq_some hit (t.windows_getElem? k) (fun i hi v hv => ?_) 0
    obtain ⟨j, rfl, rfl⟩ := Table.exists_index hv
    exact hbefore j hi
  rw [Table.place, hfound, Nat.zero_add]

/-- Without a hit the default action places the frame (R60, R61). -/
theorem Table.place_default {t : Table} {f : Frame} (h : ∀ k : WindowNo, (t.windows.get k).hits f = false) :
    t.place f = ⟨t.default, f.tag, 8⟩ := by
  have hnone : firstHit f 0 t.windows.toList = none := by
    refine firstHit_eq_none (fun w hw => ?_) 0
    obtain ⟨i, hi⟩ := List.mem_iff_getElem?.mp hw
    obtain ⟨k, -, rfl⟩ := Table.exists_index hi
    exact h k
  rw [Table.place, hnone]

/-- A rewrite replaces the tag bits under the mask (R61). -/
theorem Window.tagOut_getLsbD {w : Window} {rewrite : Tag} (h : w.rewrite = some rewrite) (tag : Tag) {b : Nat}
    (hb : b < 24) :
    (w.tagOut tag).getLsbD b = (rewrite.getLsbD b || (tag.getLsbD b && !w.mask.getLsbD b)) := by
  simp [Window.tagOut, h, hb, Bool.or_comm]

/-- Settles O18: the search ends at the first hit (`Table.place_first`) or at the default action (`Table.place_default`). -/
theorem firstHitPlacesFrame : Obligations.FirstHitPlacesFrame := by
  intro table f hits
  have hiff (w : Window) : w.hits f = true ↔ hits w := w.hits_iff f
  have hmiss {w : Window} (h : ¬ hits w) : w.hits f = false := Bool.eq_false_iff.mpr ((hiff w).not.mpr h)
  refine ⟨fun k hk hbefore => ?_, fun hnone => Table.place_default fun k => hmiss (hnone k)⟩
  rw [Table.place_first ((hiff _).mpr hk) fun j hj => hmiss (hbefore j hj)]
  refine ⟨rfl, rfl, fun hkept => ?_, fun rewrite hrewrite b hb => Window.tagOut_getLsbD hrewrite f.tag hb⟩
  simp only [Window.tagOut, hkept]

/-! ## The nine rows -/

theorem Relay.append_eq (k : Relay) (n : SlotNo) :
    k.append n = { k with queue := k.queue ++ [n], head := if k.queue = [] then some ⟨0, 0, false⟩ else k.head } := by
  simp only [Relay.append, List.isEmpty_iff, HeadRecord.fresh]

/-- With a holder the slot of a classified frame is HELD (R26). -/
theorem Store.settle_held (st : Store) (i : IngressNo) (n : SlotNo) (record : SlotRecord) {holders : Holders}
    (h : holders.isEmpty = false) :
    st.settle i n record holders = { st with slots := st.slots.set n (.held (.ingress i) record holders) } := by
  rw [Store.settle, h, if_neg Bool.false_ne_true, Store.setSlot]

/-- Without one it is FREE (R26). -/
theorem Store.settle_freed {st : Store} {i : IngressNo} {n : SlotNo} (hn : st.slot n = .filling i) (record : SlotRecord) :
    st.settle i n record ⟨false, false, false⟩ = { st with
      slots := st.slots.set n .free
      freeList := st.freeList ++ [n]
      use := st.use.set i (st.use.get i - 1) } :=
  Store.free_filling hn

section
variable {s : State} {i : IngressNo} {f : Frame} (n : SlotNo) (record : SlotRecord)

/-- A frame with target DROP is offered to no queue (R75). -/
theorem State.classify_drop (h : ((s.ingress i).active.place f).target = .drop) :
    s.classify i n f record = { s.countWindowDrop i with
      store := s.store.settle i n (record.placedBy (s.ingress i) f) ⟨false, false, false⟩ } := by
  simp only [State.classify, h]
  rfl

/-- A frame with target RELAY is offered to the relay queue (R72). -/
theorem State.classify_relay (h : ((s.ingress i).active.place f).target = .relay) :
    s.classify i n f record = { (s.relayOffer i n).1 with
      store := s.store.settle i n (record.placedBy (s.ingress i) f) ⟨(s.relayOffer i n).2, false, false⟩ } := by
  rw [← State.relayOffer_store s i n]
  simp only [State.classify, h]
  rfl

/-- A frame with target HOST is offered to the delivery queue (R72). -/
theorem State.classify_host (h : ((s.ingress i).active.place f).target = .host) :
    s.classify i n f record = { (s.deliveryOffer i n).1 with
      store := s.store.settle i n (record.placedBy (s.ingress i) f) ⟨false, (s.deliveryOffer i n).2, false⟩ } := by
  rw [← State.deliveryOffer_store s i n]
  simp only [State.classify, h]
  rfl

/-- A frame with target BOTH is offered to the relay queue and then to the delivery queue (R72). -/
theorem State.classify_both (h : ((s.ingress i).active.place f).target = .both) {u v : State} {relayed delivered : Bool}
    (hu : s.relayOffer i n = (u, relayed)) (hv : u.deliveryOffer i n = (v, delivered)) :
    s.classify i n f record = { v with
      store := s.store.settle i n (record.placedBy (s.ingress i) f) ⟨relayed, delivered, false⟩ } := by
  have hstore : v.store = s.store := by
    rw [← State.relayOffer_store s i n, hu, ← State.deliveryOffer_store u i n, hv]
  rw [← hstore]
  simp only [State.classify, h, Target.toRelay, Target.toHost, if_true, hu, hv]
  rfl

end

/-- Settles O19, row by row: the target decides the offers, and each offer finds room or is counted. -/
theorem classificationResults : Obligations.ClassificationResults := by
  intro s i n f record hslot p whole relayRoom hostRoom relayed captured heldBy freed lostRelay lostHost
  have hrelayed : s.relay.append n = relayed := s.relay.append_eq n
  have hheld (h : Holders) (hsome : h.isEmpty = false) : s.store.settle i n whole h = heldBy h :=
    s.store.settle_held i n whole hsome
  have hfreed : s.store.settle i n whole ⟨false, false, false⟩ = freed := Store.settle_freed hslot whole
  have hwhole : record.placedBy (s.ingress i) f = whole := rfl
  refine ⟨fun hp => ?_, fun hp hr => ?_, fun hp hr => ?_, fun hp hh => ?_, fun hp hh => ?_, fun hp hr hh => ?_,
    fun hp hr hh => ?_, fun hp hr hh => ?_, fun hp hr hh => ?_⟩
  · rw [State.classify_drop n record hp, hwhole, hfreed]
  · rw [State.classify_relay n record hp, State.relayOffer_room i n hr, hwhole, hheld _ rfl, hrelayed]
  · rw [State.classify_relay n record hp, State.relayOffer_full i n (Nat.le_of_not_lt hr), hwhole, hfreed]
  · rw [State.classify_host n record hp, State.deliveryOffer_room i n hh, hwhole, hheld _ rfl]
  · rw [State.classify_host n record hp, State.deliveryOffer_full i n (Nat.le_of_not_lt hh), hwhole, hfreed]
  · rw [State.classify_both n record hp (State.relayOffer_room i n hr) (State.deliveryOffer_room i n hh), hwhole,
      hheld _ rfl, hrelayed]
  · rw [State.classify_both n record hp (State.relayOffer_room i n hr)
      (State.deliveryOffer_full i n (Nat.le_of_not_lt hh)), hwhole, hheld _ rfl, hrelayed]
    rfl
  · rw [State.classify_both n record hp (State.relayOffer_full i n (Nat.le_of_not_lt hr))
      (State.deliveryOffer_room i n hh), hwhole, hheld _ rfl]
    rfl
  · rw [State.classify_both n record hp (State.relayOffer_full i n (Nat.le_of_not_lt hr))
      (State.deliveryOffer_full i n (Nat.le_of_not_lt hh)), hwhole, hfreed]

end Sys2Proof.Machine
end

section
/-! SUPPORT. Which commands write the ingresses: every other one leaves them as they are. -/

namespace Sys2Proof.Machine

/-- The commands that write the settings, the counters or the tables of an ingress. -/
def Instr.writesIngress : Instr → Bool
  | .powerReset _ _ | .replyCompleted _ _ | .tapEndOfFrame _ _ | .trunkEndOfFrame _ | .status | .setTap | .setTrunk
  | .setWindow | .setDefault | .commit | .discardStaged => true
  | _ => false

section
variable (s : State) (r : Request)

/-! ## Operations -/

@[simp] theorem State.allocate_ingresses (i : IngressNo) (stamp : Word32) :
    (s.allocate i stamp).1.ingresses = s.ingresses := by
  rcases s.allocate_cases i stamp with ⟨reason, h⟩ | ⟨n, st, -, -, h⟩ <;> rw [h]

@[simp] theorem State.trunkFrameStart_ingresses (stamp : Word32) : (s.trunkFrameStart stamp).ingresses = s.ingresses :=
  s.allocate_ingresses trunkIngress stamp

@[simp] theorem State.followWinner_ingresses : s.followWinner.ingresses = s.ingresses := by
  unfold State.followWinner
  split
  · exact s.trunkFrameStart_ingresses _
  · rfl

@[simp] theorem State.applySent_ingresses (c : Candidate) : (s.applySent c).ingresses = s.ingresses := by
  cases c with
  | relayHead => exact s.removeHead_ingresses
  | entry e => rfl

@[simp] theorem State.applyLost_ingresses (c : Candidate) : (s.applyLost c).ingresses = s.ingresses := by
  cases c <;> simp only [State.applyLost] <;> split <;> simp

@[simp] theorem State.applyFault_ingresses (c : Candidate) : (s.applyFault c).ingresses = s.ingresses := by
  cases c <;> simp only [State.applyFault] <;> split
  · simp
  · split <;> simp
  · simp
  · split <;> simp

@[simp] theorem State.answer_ingresses (x : Status) (d : Byte) (result : List Byte) :
    (s.answer r x d result).ingresses = s.ingresses := s.produceReply_ingresses _ _ _

@[simp] theorem State.refuse_ingresses (x : Status) (d : Byte) : (s.refuse r x d).ingresses = s.ingresses :=
  s.answer_ingresses r x d []

theorem State.afterCheck_ingresses {α : Type} {check : Except Refused α} {go : α → State}
    (hgo : ∀ a, (go a).ingresses = s.ingresses) : (s.afterCheck r check go).ingresses = s.ingresses := by
  unfold State.afterCheck
  split
  · exact s.refuse_ingresses r _ _
  · exact hgo _

/-- A request whose execution leaves the ingresses leaves them as a command. -/
theorem State.serve_ingresses {code : Option RequestCode} {act : Request → State → State}
    (hact : ∀ (r : Request) (u : State), (act r u).ingresses = u.ingresses) : (s.serve code act).ingresses = s.ingresses :=
  State.serve_cases (P := fun u => u.ingresses = s.ingresses) rfl fun r _ _ _ => hact r _

@[simp] theorem State.closeForStop_ingresses (t : TapNo) : (s.closeForStop t).ingresses = s.ingresses := by
  unfold State.closeForStop
  split <;> simp

@[simp] theorem State.detachForStop_ingresses : s.detachForStop.ingresses = s.ingresses := by
  unfold State.detachForStop
  split <;> simp

theorem State.foldl_closeForStop_ingresses (ts : List TapNo) : (ts.foldl State.closeForStop s).ingresses = s.ingresses := by
  induction ts generalizing s with
  | nil => rfl
  | cons t ts ih => rw [List.foldl_cons, ih, State.closeForStop_ingresses]

@[simp] theorem State.beginStop_ingresses : (s.beginStop r).ingresses = s.ingresses := by
  rw [State.beginStop_eq]
  dsimp only
  rw [State.allClosed, State.detachForStop_ingresses, State.foldl_closeForStop_ingresses]
  rfl

@[simp] theorem State.sessionOpened_ingresses : s.sessionOpened.ingresses = s.ingresses := by
  unfold State.sessionOpened
  split <;> rfl

@[simp] theorem State.startNotice_ingresses : s.startNotice.ingresses = s.ingresses := by
  unfold State.startNotice
  split
  · rfl
  · rfl
  unfold State.startCapture
  split
  · split <;> rfl
  · rfl

/-! ## Requests -/

theorem State.runHello_ingresses : (s.runHello r).ingresses = s.ingresses := by
  rw [State.runHello_eq, State.answer_ingresses, State.sessionOpened_ingresses]

theorem State.runStart_ingresses : (s.runStart r).ingresses = s.ingresses :=
  s.afterCheck_ingresses r fun _ => State.answer_ingresses _ r _ _ _

theorem State.runStop_ingresses : (s.runStop r).ingresses = s.ingresses := by
  unfold State.runStop
  split <;> simp

theorem State.runReset_ingresses : (s.runReset r).ingresses = s.ingresses := s.answer_ingresses r .ok 0 []

theorem State.runOpenTap_ingresses : (s.runOpenTap r).ingresses = s.ingresses := by
  unfold State.runOpenTap
  split
  · exact s.afterCheck_ingresses r fun _ => State.answer_ingresses _ r _ _ _
  · rfl

theorem State.closeTap_ingresses (t : TapNo) : (s.closeTap r t).ingresses = s.ingresses := by
  unfold State.closeTap
  split
  · simp
  · simp
  · split <;> simp
  · simp [State.closeNow]

theorem State.runCloseTap_ingresses : (s.runCloseTap r).ingresses = s.ingresses := by
  unfold State.runCloseTap
  split
  · exact s.afterCheck_ingresses r (s.closeTap_ingresses r)
  · rfl

theorem State.runSetQuota_ingresses : (s.runSetQuota r).ingresses = s.ingresses := by
  unfold State.runSetQuota
  split
  · exact s.afterCheck_ingresses r fun _ => State.answer_ingresses _ r _ _ _
  · rfl

theorem State.runReadWindow_ingresses : (s.runReadWindow r).ingresses = s.ingresses := by
  unfold State.runReadWindow
  split
  · exact s.afterCheck_ingresses r fun _ => State.answer_ingresses _ r _ _ _
  · rfl

theorem State.runSetRelay_ingresses : (s.runSetRelay r).ingresses = s.ingresses := by
  unfold State.runSetRelay
  split
  · exact s.afterCheck_ingresses r fun _ => State.answer_ingresses _ r _ _ _
  · rfl

theorem State.setGate_ingresses (gate : Gate) : (s.setGate r gate).ingresses = s.ingresses :=
  State.answer_ingresses _ r _ _ _

theorem State.runFlushRelay_ingresses : (s.runFlushRelay r).ingresses = s.ingresses := State.answer_ingresses _ r _ _ _

theorem State.runSend_ingresses {s t : State} {r : Request} : s.runSend r = .next t → t.ingresses = s.ingresses := by
  have hnext {u : State} (hu : u.ingresses = s.ingresses) :=
    of_next (P := fun t => t.ingresses = s.ingresses) (t := t) hu
  unfold State.runSend
  split
  · split
    · exact hnext (s.refuse_ingresses r _ _)
    · unfold State.sendFrame
      split
      · exact nofun
      · exact hnext (State.answer_ingresses _ r _ _ _)
  · exact hnext rfl

theorem State.runCancel_ingresses : (s.runCancel r).ingresses = s.ingresses := by
  unfold State.runCancel
  split
  · refine s.afterCheck_ingresses r fun e => ?_
    unfold State.cancelEntry
    split <;> simp
  · rfl

theorem State.runAttach_ingresses : (s.runAttach r).ingresses = s.ingresses :=
  s.afterCheck_ingresses r fun _ => State.answer_ingresses _ r _ _ _

theorem State.runDetach_ingresses : (s.runDetach r).ingresses = s.ingresses := by
  unfold State.runDetach
  split
  · simp
  split
  · simp
  split <;> simp

theorem State.runResume_ingresses : (s.runResume r).ingresses = s.ingresses :=
  s.afterCheck_ingresses r fun _ => State.answer_ingresses _ r _ _ _

theorem State.runGrant_ingresses : (s.runGrant r).ingresses = s.ingresses := by
  unfold State.runGrant
  split
  · exact s.afterCheck_ingresses r fun _ => State.answer_ingresses _ r _ _ _
  · rfl

theorem State.runAck_ingresses : (s.runAck r).ingresses = s.ingresses := by
  unfold State.runAck
  split
  · exact s.afterCheck_ingresses r fun _ => State.answer_ingresses _ r _ _ _
  · rfl

theorem State.runResend_ingresses : (s.runResend r).ingresses = s.ingresses := State.answer_ingresses _ r _ _ _

theorem State.runDiscardCaptures_ingresses : (s.runDiscardCaptures r).ingresses = s.ingresses :=
  State.answer_ingresses _ r _ _ _

end

/-! ## Commands -/

/-- A condition decides between a state and the present one. -/
theorem ingresses_ite {s u : State} {p : Prop} [Decidable p] (h : u.ingresses = s.ingresses) :
    (if p then u else s).ingresses = s.ingresses := by
  split
  · exact h
  · rfl

theorem exec_outboundChoice_ingresses {s t : State} : exec .outboundChoice s = .next t → t.ingresses = s.ingresses := by
  refine of_next (P := fun t => t.ingresses = s.ingresses) (ingresses_ite ?_)
  split
  · rfl
  · exact ingresses_ite s.startNotice_ingresses

theorem exec_txDoneCompleted_ingresses {s t : State} : exec .txDoneCompleted s = .next t → t.ingresses = s.ingresses := by
  refine of_next (P := fun t => t.ingresses = s.ingresses) (ingresses_ite ?_)
  split <;> rfl

theorem exec_transmitOpportunity_ingresses {s t : State} :
    exec .transmitOpportunity s = .next t → t.ingresses = s.ingresses := by
  refine of_next (P := fun t => t.ingresses = s.ingresses) (ingresses_ite ?_)
  split <;> rfl

theorem exec_outcomeSent_ingresses {s t : State} {read : List Level} :
    exec (.outcomeSent read) s = .next t → t.ingresses = s.ingresses := by
  refine of_next (P := fun t => t.ingresses = s.ingresses) ?_
  split
  · rfl
  · exact ingresses_ite (by simp)

theorem exec_outcomeLost_ingresses {s t : State} {read : List Level} :
    exec (.outcomeLost read) s = .next t → t.ingresses = s.ingresses := by
  refine of_next (P := fun t => t.ingresses = s.ingresses) ?_
  split
  · rfl
  · exact ingresses_ite (by simp)

theorem exec_outcomeFault_ingresses {s t : State} {read : List Level} :
    exec (.outcomeFault read) s = .next t → t.ingresses = s.ingresses := by
  refine of_next (P := fun t => t.ingresses = s.ingresses) ?_
  split
  · rfl
  · exact ingresses_ite (by simp)

theorem exec_send_ingresses {s t : State} : exec .send s = .next t → t.ingresses = s.ingresses := by
  rcases s.takeRequest_cases (some .send) with hnone | ⟨r, rest, -, -, htake⟩
  · simp only [exec, execSend, hnone]
    exact of_next (P := fun t => t.ingresses = s.ingresses) rfl
  · simp only [exec, execSend, htake]
    exact State.runSend_ingresses

/-- A command that is not named by `Instr.writesIngress` leaves every ingress as it is. -/
theorem exec_ingresses {c : Instr} (hc : Instr.writesIngress c = false) {s t : State} :
    exec c s = .next t → t.ingresses = s.ingresses := by
  have hnext {u : State} (hu : u.ingresses = s.ingresses) :
      (Host.Outcome.next u : Host.Outcome State Fault Refusal) = .next t → t.ingresses = s.ingresses :=
    of_next (P := fun t => t.ingresses = s.ingresses) hu
  have hnot {u : State} {p : Prop} [Decidable p] (hu : u.ingresses = s.ingresses) :
      (if p then s else u).ingresses = s.ingresses := by
    split
    · rfl
    · exact hu
  have hserve {code : Option RequestCode} {act : Request → State → State}
      (hact : ∀ (r : Request) (u : State), (act r u).ingresses = u.ingresses) :
      (Host.Outcome.next (s.serve code act) : Host.Outcome State Fault Refusal) = .next t → t.ingresses = s.ingresses :=
    hnext (s.serve_ingresses hact)
  cases c with
  | powerReset | replyCompleted | tapEndOfFrame | trunkEndOfFrame | status | setTap | setTrunk | setWindow | setDefault
  | commit | discardStaged => nomatch hc
  | memoryCheckCompleted correct => exact hnext (ingresses_ite rfl)
  | tapStartOfFrame k => exact hnext (ingresses_ite (s.allocate_ingresses _ _))
  | tapIdleGap k => exact hnext (ingresses_ite rfl)
  | tapResynchronised k => exact hnext (ingresses_ite rfl)
  | trunkStartOfFrame => exact hnext (ingresses_ite (s.trunkFrameStart_ingresses _))
  | trunkJoinIdleGap => exact hnext (ingresses_ite rfl)
  | trunkReceiverResync => exact hnext (ingresses_ite rfl)
  | transmitOpportunity => exact exec_transmitOpportunity_ingresses
  | outcomeSent read => exact exec_outcomeSent_ingresses
  | outcomeLost read => exact exec_outcomeLost_ingresses
  | outcomeFault read => exact exec_outcomeFault_ingresses
  | framingError => exact hnext (hnot (s.takeHunt_ingresses _))
  | badLength len => exact hnext (ingresses_ite (s.takeHunt_ingresses _))
  | gapExpiry => exact hnext (hnot (s.takeHunt_ingresses _))
  | messageReceived low => exact hnext (ingresses_ite (s.takeHunt_ingresses _))
  | byteReceived byte => exact hnext (hnot (s.takeHunt_ingresses _))
  | lineBreak => exact hnext (hnot (by dsimp only; split <;> rfl))
  | outboundChoice => exact exec_outboundChoice_ingresses
  | captureCompleted => exact hnext (ingresses_ite rfl)
  | txDoneCompleted => exact exec_txDoneCompleted_ingresses
  | eventCompleted => exact hnext (ingresses_ite rfl)
  | badRequest => exact hserve fun r u => u.refuse_ingresses r _ _
  | hello => exact hserve fun r u => u.runHello_ingresses r
  | start => exact hserve fun r u => u.runStart_ingresses r
  | stop => exact hserve fun r u => u.runStop_ingresses r
  | reset => exact hserve fun r u => u.runReset_ingresses r
  | openTap => exact hserve fun r u => u.runOpenTap_ingresses r
  | closeTap => exact hserve fun r u => u.runCloseTap_ingresses r
  | setQuota => exact hserve fun r u => u.runSetQuota_ingresses r
  | readWindow => exact hserve fun r u => u.runReadWindow_ingresses r
  | setRelay => exact hserve fun r u => u.runSetRelay_ingresses r
  | holdRelay => exact hserve fun r u => u.setGate_ingresses r _
  | releaseRelay => exact hserve fun r u => u.setGate_ingresses r _
  | flushRelay => exact hserve fun r u => u.runFlushRelay_ingresses r
  | send => exact exec_send_ingresses
  | cancel => exact hserve fun r u => u.runCancel_ingresses r
  | attach => exact hserve fun r u => u.runAttach_ingresses r
  | detach => exact hserve fun r u => u.runDetach_ingresses r
  | resume => exact hserve fun r u => u.runResume_ingresses r
  | grant => exact hserve fun r u => u.runGrant_ingresses r
  | ack => exact hserve fun r u => u.runAck_ingresses r
  | resend => exact hserve fun r u => u.runResend_ingresses r
  | discardCaptures => exact hserve fun r u => u.runDiscardCaptures_ingresses r

end Sys2Proof.Machine
end

section
/-! SUPPORT. What each command that writes an ingress keeps of the law of its tables (R58). -/

namespace Sys2Proof.Machine

namespace State.TablesLawful

variable {s t : State}

/-- The law rests on the ingresses alone. -/
theorem congr (h : s.TablesLawful) (hi : t.ingresses = s.ingresses) : t.TablesLawful := by
  intro i
  rw [State.ingress, hi]
  exact h i

/-! ## Operations -/

theorem modIngress (h : s.TablesLawful) (i : IngressNo) {f : Ingress → Ingress} (hf : (f (s.ingress i)).TablesLawful i) :
    (s.modIngress i f).TablesLawful :=
  h.set hf

/-- A change of an ingress that is none of its tables. -/
theorem modIngress_same (h : s.TablesLawful) (i : IngressNo) {f : Ingress → Ingress}
    (hactive : (f (s.ingress i)).active = (s.ingress i).active)
    (hstaged : (f (s.ingress i)).staged = (s.ingress i).staged) : (s.modIngress i f).TablesLawful := by
  refine h.modIngress i ⟨?_, ?_⟩
  · rw [hactive]
    exact (h i).1
  · rw [hstaged]
    exact (h i).2

/-- The same change to every ingress, which keeps the law of its tables. -/
theorem modIngresses (h : s.TablesLawful) {f : Ingress → Ingress}
    (hf : ∀ i g, Ingress.TablesLawful g i → (f g).TablesLawful i) : (s.modIngresses f).TablesLawful := by
  have hfold (is : List IngressNo) (u : State) (hu : u.TablesLawful) :
      (is.foldl (fun s i => s.modIngress i f) u).TablesLawful := by
    induction is generalizing u with
    | nil => exact hu
    | cons i is ih => exact ih _ (hu.modIngress i (hf i _ (hu i)))
  exact hfold allIngresses s h

theorem countDrop (h : s.TablesLawful) (i : IngressNo) (reason : DropReason) : (s.countDrop i reason).TablesLawful :=
  State.TablesLawful.set (s := { s with events := _ }) h (h i)

theorem countWindowDrop (h : s.TablesLawful) (i : IngressNo) : (s.countWindowDrop i).TablesLawful :=
  h.modIngress_same i rfl rfl

theorem relayOffer (h : s.TablesLawful) (i : IngressNo) (n : SlotNo) : (s.relayOffer i n).1.TablesLawful := by
  unfold State.relayOffer
  split
  · exact h
  · exact h.countDrop i _

theorem deliveryOffer (h : s.TablesLawful) (i : IngressNo) (n : SlotNo) : (s.deliveryOffer i n).1.TablesLawful := by
  unfold State.deliveryOffer
  split
  · exact h
  · exact h.countDrop i _

/-- Classification counts, and writes no table. -/
theorem classify (h : s.TablesLawful) (i : IngressNo) (n : SlotNo) (f : Frame) (record : SlotRecord) :
    (s.classify i n f record).TablesLawful := by
  cases htarget : ((s.ingress i).active.place f).target with
  | drop =>
    rw [State.classify_drop n record htarget]
    exact (h.countWindowDrop i).congr rfl
  | relay =>
    rw [State.classify_relay n record htarget]
    exact h.relayOffer i n
  | host =>
    rw [State.classify_host n record htarget]
    exact h.deliveryOffer i n
  | both =>
    rw [State.classify_both n record htarget rfl rfl]
    exact (h.relayOffer i n).deliveryOffer i n

theorem endFrame (h : s.TablesLawful) (i : IngressNo) (p : InProgress) (verdict : Verdict) :
    (s.endFrame i p verdict).TablesLawful := by
  have hcounted (seq : Word16) (counters : Counters) :
      (s.modIngress i fun g => { g with nextSeq := seq, counters := counters }).TablesLawful := h.modIngress_same i rfl rfl
  have hinvalid (checkFault : Bool) : (s.endInvalidFrame i p checkFault).TablesLawful := by
    cases p <;> exact (hcounted _ _).congr rfl
  cases verdict with
  | valid f =>
    cases p with
    | stored n stamp => exact State.TablesLawful.classify ((hcounted _ _).congr rfl) i n f _
    | unstored reason => exact State.TablesLawful.countDrop ((hcounted _ _).congr rfl) i _
  | invalidCheck => exact hinvalid true
  | invalidFormat found => exact hinvalid false

theorem answer (h : s.TablesLawful) (r : Request) (x : Status) (d : Byte) (result : List Byte) :
    (s.answer r x d result).TablesLawful :=
  h.congr (s.answer_ingresses r x d result)

theorem afterCheck {α : Type} {check : Except Refused α} {go : α → State} (h : s.TablesLawful) (r : Request)
    (hgo : ∀ a, check = .ok a → (go a).TablesLawful) : (s.afterCheck r check go).TablesLawful := by
  unfold State.afterCheck
  split
  · exact h.congr (s.refuse_ingresses r _ _)
  · exact hgo _ rfl

theorem serve (h : s.TablesLawful) {code : Option RequestCode} {act : Request → State → State}
    (hact : ∀ (r : Request) (u : State), u.TablesLawful → (act r u).TablesLawful) : (s.serve code act).TablesLawful :=
  State.serve_cases h fun r rest _ _ => hact r (s.taken rest) h

/-! ## Requests -/

theorem runStatus (h : s.TablesLawful) (r : Request) : (s.runStatus r).TablesLawful := by
  unfold State.runStatus
  split
  · refine h.afterCheck r fun i _ => ?_
    cases i with
    | none => exact h.answer r _ _ _
    | some i =>
      refine State.TablesLawful.answer ?_ r _ _ _
      exact h.modIngress_same i rfl rfl
  · exact h

theorem runSetTap (h : s.TablesLawful) (r : Request) : (s.runSetTap r).TablesLawful := by
  unfold State.runSetTap
  split
  · refine h.afterCheck r fun (k, _, _) _ => State.TablesLawful.answer ?_ r _ _ _
    exact h.modIngress_same (tapIngress k) rfl rfl
  · exact h

theorem runSetTrunk (h : s.TablesLawful) (r : Request) : (s.runSetTrunk r).TablesLawful := by
  unfold State.runSetTrunk
  split
  · refine h.afterCheck r fun (_, _) _ => State.TablesLawful.answer ?_ r _ _ _
    exact h.modIngress_same trunkIngress rfl rfl
  · exact h

theorem runSetWindow (h : s.TablesLawful) (r : Request) : (s.runSetWindow r).TablesLawful := by
  refine h.afterCheck r fun (i, k, _) hc => State.TablesLawful.answer ?_ r _ _ _
  exact h.modIngress i (Ingress.TablesLawful.stageWindow (h i) (checkSetWindow_ok hc) k)

theorem runSetDefault (h : s.TablesLawful) (r : Request) : (s.runSetDefault r).TablesLawful := by
  unfold State.runSetDefault
  split
  · refine h.afterCheck r fun (i, _) hc => State.TablesLawful.answer ?_ r _ _ _
    obtain ⟨hactive, hwindows, -⟩ := h i
    exact h.modIngress i ⟨hactive, hwindows, checkSetDefault_ok hc⟩
  · exact h

theorem runCommit (h : s.TablesLawful) (r : Request) : (s.runCommit r).TablesLawful := by
  have hcommit (i : IngressNo) (g : Ingress) (hg : g.TablesLawful i) : g.commit.TablesLawful i := ⟨hg.2, hg.2⟩
  unfold State.runCommit
  split
  · refine h.afterCheck r fun i _ => ?_
    cases i with
    | none => exact (h.modIngresses hcommit).answer r _ _ _
    | some i => exact (h.modIngress i (hcommit i _ (h i))).answer r _ _ _
  · exact h

theorem runDiscardStaged (h : s.TablesLawful) (r : Request) : (s.runDiscardStaged r).TablesLawful := by
  have hdiscard (i : IngressNo) (g : Ingress) (hg : g.TablesLawful i) : g.discardStaged.TablesLawful i := ⟨hg.1, hg.1⟩
  unfold State.runDiscardStaged
  split
  · refine h.afterCheck r fun i _ => ?_
    cases i with
    | none => exact (h.modIngresses hdiscard).answer r _ _ _
    | some i => exact (h.modIngress i (hdiscard i _ (h i))).answer r _ _ _
  · exact h

/-! ## Commands -/

theorem listenFrameEnd (h : s.TablesLawful) (k : TapNo) (verdict : Verdict) : (s.listenFrameEnd k verdict).TablesLawful := by
  cases verdict <;> exact h

theorem closingFrameEnd (h : s.TablesLawful) (k : TapNo) : (s.closingFrameEnd k).TablesLawful := by
  refine h.congr ?_
  unfold State.closingFrameEnd
  dsimp only
  split <;> simp

theorem tapEndOfFrame (h : s.TablesLawful) (k : TapNo) (bits : List Level) :
    Machine.exec (.tapEndOfFrame k bits) s = .next t → t.TablesLawful := by
  refine of_next ?_
  split
  · split
    · exact (h.endFrame _ _ _).listenFrameEnd k _
    · exact (h.endFrame _ _ _).closingFrameEnd k
    · exact h
    · exact h
  · exact h

theorem trunkEndOfFrame (h : s.TablesLawful) (bits : List Level) :
    Machine.exec (.trunkEndOfFrame bits) s = .next t → t.TablesLawful := by
  refine of_next ?_
  split
  · next p verdict _ _ => exact (h.endFrame trunkIngress p verdict).congr (State.detachIfIdle_ingresses _)
  · exact h

/-- The RESET reply keeps the tables (R81). -/
theorem replyCompleted (h : s.TablesLawful) (br1 br0 : Bool) :
    Machine.exec (.replyCompleted br1 br0) s = .next t → t.TablesLawful := by
  refine of_next ?_
  split
  · split
    · split
      · exact (State.Fresh.softReset h br1 br0).tables
      · exact h
    · exact h
  · exact h

/-- Every command keeps the law. -/
theorem exec (h : s.TablesLawful) {c : Instr} (hexec : Machine.exec c s = .next t) : t.TablesLawful := by
  cases hc : Instr.writesIngress c with
  | false => exact h.congr (exec_ingresses hc hexec)
  | true =>
    cases c with
    | powerReset br1 br0 => exact of_next (State.Fresh.reset (strapRate br1 br0) s.pending).tables hexec
    | replyCompleted br1 br0 => exact h.replyCompleted br1 br0 hexec
    | tapEndOfFrame k bits => exact h.tapEndOfFrame k bits hexec
    | trunkEndOfFrame bits => exact h.trunkEndOfFrame bits hexec
    | status => exact of_next (h.serve fun r _ hu => hu.runStatus r) hexec
    | setTap => exact of_next (h.serve fun r _ hu => hu.runSetTap r) hexec
    | setTrunk => exact of_next (h.serve fun r _ hu => hu.runSetTrunk r) hexec
    | setWindow => exact of_next (h.serve fun r _ hu => hu.runSetWindow r) hexec
    | setDefault => exact of_next (h.serve fun r _ hu => hu.runSetDefault r) hexec
    | commit => exact of_next (h.serve fun r _ hu => hu.runCommit r) hexec
    | discardStaged => exact of_next (h.serve fun r _ hu => hu.runDiscardStaged r) hexec
    | _ => nomatch hc

end State.TablesLawful

/-- Settles O7: a microsecond changes no table, and every command keeps the law (`State.TablesLawful.exec`). -/
theorem stepKeepsTablesLawful : Obligations.StepKeepsTablesLawful := by
  intro s t h hstep
  cases hp : s.pending with
  | nil =>
    rw [step_empty hp] at hstep
    exact of_next (u := s.tick) h hstep
  | cons c rest =>
    rw [step, hp] at hstep
    exact State.TablesLawful.exec (s := { s with pending := rest }) h hstep

end Sys2Proof.Machine
end

section
/-! SUPPORT. The requests over the window tables (R62 to R68): the field that fails first, the window record that sixteen field
bytes spell, and what each request writes. -/

namespace Sys2Proof.Machine

/-! ## The field that fails first -/

/-- How checks in order end: `some n` where field `n` is the first refused with BAD_VALUE, `none` where all pass (R158). -/
def FailsAt {α : Type} (check : Except Refused α) : Option Byte → Prop
  | some n => check = .error (.badValue, n)
  | none => ∃ a, check = .ok a

namespace FailsAt

variable {α β : Type} {n : Byte} {p q : Prop} [Decidable p] [Decidable q] {rest : Option Byte}

theorem field {o : Option α} {f : α → Except Refused β} (hp : o = none ↔ p)
    (hrest : ∀ a, o = some a → FailsAt (f a) rest) : FailsAt (needField n o >>= f) (if p then some n else rest) := by
  cases o with
  | none =>
    rw [if_pos (hp.mp rfl)]
    rfl
  | some a =>
    rw [if_neg (hp.not.mp (Option.some_ne_none a))]
    exact hrest a rfl

/-- A field with a further condition on it. -/
theorem field_or {o : Option α} {f : α → Except Refused β} (hp : o = none ↔ p)
    (hrest : ∀ a, o = some a → FailsAt (f a) (if q then some n else rest)) :
    FailsAt (needField n o >>= f) (if p ∨ q then some n else rest) := by
  rw [ite_or]
  exact field hp hrest

theorem value {ok : Bool} {f : Unit → Except Refused β} (hp : ok = false ↔ p) (hrest : ok = true → FailsAt (f ()) rest) :
    FailsAt (needValue ok n >>= f) (if p then some n else rest) := by
  cases ok with
  | false =>
    rw [if_pos (hp.mp rfl)]
    rfl
  | true =>
    rw [if_neg (hp.not.mp nofun)]
    exact hrest rfl

theorem passed (a : α) : FailsAt (pure a) none := ⟨a, rfl⟩

end FailsAt

/-! ## What a byte of a field reads as -/

theorem indexOf_eq_none_iff {n : Nat} {b : Byte} : indexOf n b = none ↔ n ≤ b.toNat := by
  simp [indexOf]

theorem flagOf_eq_none_iff {b : Byte} : flagOf b = none ↔ 2 ≤ b.toNat := by
  refine ⟨fun h => Nat.le_of_not_lt fun hlt => ?_, flagOf_none⟩
  obtain ⟨x, hx, -⟩ := flagOf_some hlt
  exact nomatch hx.symm.trans h

theorem Kinds.ofCode_eq_none_iff {b : Byte} : Kinds.ofCode b = none ↔ b = 0 ∨ 4 ≤ b.toNat := by
  unfold Kinds.ofCode
  split_ifs <;> simp_all
  bv_omega

theorem Target.ofCode_eq_none_iff {b : Byte} : Target.ofCode b = none ↔ 4 ≤ b.toNat := by
  unfold Target.ofCode
  split_ifs <;> simp_all
  bv_omega

theorem Copy.ofCode_eq_none_iff {b : Byte} : Copy.ofCode b = none ↔ 2 ≤ b.toNat := by
  unfold Copy.ofCode
  split_ifs <;> simp_all
  bv_omega

theorem numberIn_eq_none_iff {hi : Nat} {b : Byte} : numberIn 0 hi b = none ↔ hi + 1 ≤ b.toNat := by
  simp [numberIn]

theorem indexOf_eq_some {n : Nat} {b : Byte} {i : Fin n} (h : indexOf n b = some i) : BitVec.ofNat 8 i.val = b := by
  obtain ⟨hb, rfl⟩ : ∃ hb : b.toNat < n, ⟨b.toNat, hb⟩ = i := by simpa [indexOf] using h
  exact byteOf_toNat b

theorem flagOf_eq_some {b : Byte} {x : Bool} (h : flagOf b = some x) : flagByte x = b := by
  unfold flagOf at h
  split_ifs at h with hb hb <;> cases h <;> exact hb.symm

theorem Kinds.ofCode_eq_some {b : Byte} {k : Kinds} (h : Kinds.ofCode b = some k) : k.code = b := by
  unfold Kinds.ofCode at h
  split_ifs at h with hb hb hb <;> cases h <;> exact hb.symm

theorem Target.ofCode_eq_some {b : Byte} {t : Target} (h : Target.ofCode b = some t) : t.code = b := by
  unfold Target.ofCode at h
  split_ifs at h with hb hb hb hb <;> cases h <;> exact hb.symm

theorem Copy.ofCode_eq_some {b : Byte} {c : Copy} (h : Copy.ofCode b = some c) : c.code = b := by
  unfold Copy.ofCode at h
  split_ifs at h with hb hb <;> cases h <;> exact hb.symm

/-- The bits of a tag, from the byte that carries each. -/
theorem tagOf_getLsbD (b2 b1 b0 : Byte) (i : Nat) :
    (tagOf b2 b1 b0).getLsbD i =
      if i < 8 then b0.getLsbD i else if i < 16 then b1.getLsbD (i - 8) else b2.getLsbD (i - 16) := by
  have houter : (tagOf b2 b1 b0).getLsbD i = if i < 8 then b0.getLsbD i else (b2 ++ b1).getLsbD (i - 8) :=
    BitVec.getLsbD_append
  rw [houter, BitVec.getLsbD_append, Nat.sub_sub]
  simp only [show i - 8 < 8 ↔ i < 16 by omega]

theorem bytes24_tagOf (b2 b1 b0 : Byte) : bytes24 (tagOf b2 b1 b0) = [b2, b1, b0] := by
  simp only [bytes24, List.cons.injEq, and_true]
  refine ⟨?_, ?_, ?_⟩
  all_goals
    refine BitVec.eq_of_getLsbD_eq fun i hi => ?_
    simp only [BitVec.getLsbD_extractLsb', tagOf_getLsbD]
    grind

theorem tagOf_bytes24 (x : Tag) : tagOf (x.extractLsb' 16 8) (x.extractLsb' 8 8) (x.extractLsb' 0 8) = x := by
  refine BitVec.eq_of_getLsbD_eq fun i hi => ?_
  simp only [tagOf_getLsbD, BitVec.getLsbD_extractLsb']
  grind
/-- Ingress 6 names neither RELAY nor BOTH, in the bytes that spell them (R58). -/
theorem targetAllowed_eq_false_iff (i : IngressNo) (target : Target) :
    targetAllowed i target = false ↔ BitVec.ofNat 8 i.val = 6 ∧ (target.code = 1 ∨ target.code = 3) := by
  revert i
  cases target <;> decide

/-- The check of field 10, in the byte that spells field 9 (R62). -/
theorem rewriteFits_eq_false_iff (isPresent : Bool) (value mask : Tag) :
    rewriteFits isPresent value mask = false ↔
      (flagByte isPresent = 1 ∧ value &&& ~~~mask ≠ 0) ∨ (flagByte isPresent = 0 ∧ value ≠ 0) := by
  cases isPresent <;> simp [rewriteFits, insideMask, flagByte]

/-! ## The window record of sixteen field bytes -/

/-- The bytes of a window record as a SET_WINDOW carries them. -/
theorem Window.bytes_eq (w : Window) :
    w.bytes = flagByte w.enabled :: (bytes24 w.matchTag ++ (bytes24 w.mask ++
      w.kinds.code :: BitVec.ofNat 8 w.longest :: w.targets.code :: flagByte w.rewrite.isSome ::
        bytes24 (w.rewrite.getD 0))) := rfl

/-- The rewrite of fields 9 and 10 spells these fields again (R62, R63). -/
theorem rewriteOf_spells {isPresent : Bool} {value mask : Tag} (h : rewriteFits isPresent value mask = true) :
    (rewriteOf isPresent value).isSome = isPresent ∧ (rewriteOf isPresent value).getD 0 = value := by
  cases isPresent with
  | true => exact ⟨rfl, rfl⟩
  | false =>
    have hzero : value = 0 := by simpa [rewriteFits] using h
    exact ⟨rfl, hzero.symm⟩

/-- A field record that passes the checks is that of the window found (R62, R63). -/
theorem checkSetWindow_bytes {fields : List Byte} {i : IngressNo} {k : WindowNo} {w : Window}
    (h : checkSetWindow fields = .ok (i, k, w)) :
    fields = BitVec.ofNat 8 i.val :: BitVec.ofNat 8 k.val :: w.bytes := by
  unfold checkSetWindow at h
  split at h
  · simp only [bind_eq_ok, pure_eq_ok, needField_eq_ok, needValue_eq_ok, numberIn_eq_some, Prod.mk.injEq] at h
    obtain ⟨i', hi, k', hk, enabled, henabled, -, -, kinds, hkinds, longest, ⟨rfl, -, -⟩, target, htarget, -, -, isPresent,
      hpresent, -, hrewrite, rfl, rfl, rfl⟩ := h
    obtain ⟨hsome, hvalue⟩ := rewriteOf_spells hrewrite
    rw [Window.bytes_eq, hsome, hvalue, indexOf_eq_some hi, indexOf_eq_some hk, flagOf_eq_some henabled,
      Kinds.ofCode_eq_some hkinds, Target.ofCode_eq_some htarget, flagOf_eq_some hpresent, bytes24_tagOf, bytes24_tagOf,
      bytes24_tagOf, BitVec.ofNat_toNat, BitVec.setWidth_eq]
    rfl
  · exact nomatch h

/-- The fields of a lawful window record pass the checks, and give it back (R58, R62). -/
theorem checkSetWindow_lawful {i : IngressNo} (k : WindowNo) {w : Window} (hw : w.Lawful i) :
    checkSetWindow (BitVec.ofNat 8 i.val :: BitVec.ofNat 8 k.val :: w.bytes) = .ok (i, k, w) := by
  obtain ⟨hmatch, hrewrite, hlongest, htarget⟩ := hw
  have hfits : rewriteFits w.rewrite.isSome (w.rewrite.getD 0) w.mask = true := by
    cases hr : w.rewrite with
    | none => rfl
    | some x =>
      rw [hr] at hrewrite
      exact beq_iff_eq.mpr hrewrite
  have hback : rewriteOf w.rewrite.isSome (w.rewrite.getD 0) = w.rewrite := by cases w.rewrite <;> rfl
  have hlength : numberIn 0 Config.maxPayload (BitVec.ofNat 8 w.longest) = some w.longest := by
    have hnat : (BitVec.ofNat 8 w.longest).toNat = w.longest := Nat.mod_eq_of_lt (by omega)
    rw [numberIn_eq_some, hnat]
    exact ⟨rfl, Nat.zero_le _, hlongest⟩
  rw [Window.bytes_eq]
  simp only [checkSetWindow, bytes24, List.cons_append, List.nil_append, bind_eq_ok, pure_eq_ok, needField_eq_ok,
    needValue_eq_ok, tagOf_bytes24]
  exact ⟨i, indexOf_ofNat i (by decide), k, indexOf_ofNat k (by decide), w.enabled, flagOf_flagByte _, (),
    beq_iff_eq.mpr hmatch, w.kinds, Kinds.ofCode_code _, w.longest, hlength, w.targets, Target.ofCode_code _, (),
    (targetAllowed_iff _ _).mpr htarget, w.rewrite.isSome, flagOf_flagByte _, (), hfits, by rw [hback]⟩

/-- The field of a SET_WINDOW that fails first (R62). -/
theorem checkSetWindow_failsAt (b1 b2 b3 m2 m1 m0 k2 k1 k0 b6 b7 b8 b9 w2 w1 w0 : Byte) :
    FailsAt (checkSetWindow [b1, b2, b3, m2, m1, m0, k2, k1, k0, b6, b7, b8, b9, w2, w1, w0])
      (if 7 ≤ b1.toNat then some 1
      else if 8 ≤ b2.toNat then some 2
      else if 2 ≤ b3.toNat then some 3
      else if tagOf m2 m1 m0 &&& ~~~(tagOf k2 k1 k0) ≠ 0 then some 4
      else if b6 = 0 ∨ 4 ≤ b6.toNat then some 6
      else if 33 ≤ b7.toNat then some 7
      else if 4 ≤ b8.toNat ∨ (b1 = 6 ∧ (b8 = 1 ∨ b8 = 3)) then some 8
      else if 2 ≤ b9.toNat then some 9
      else if (b9 = 1 ∧ tagOf w2 w1 w0 &&& ~~~(tagOf k2 k1 k0) ≠ 0) ∨ (b9 = 0 ∧ tagOf w2 w1 w0 ≠ 0) then some 10
      else none) := by
  refine FailsAt.field indexOf_eq_none_iff fun i hi => ?_
  refine FailsAt.field indexOf_eq_none_iff fun k _ => ?_
  refine FailsAt.field flagOf_eq_none_iff fun enabled _ => ?_
  refine FailsAt.value (by simp [insideMask]) fun _ => ?_
  refine FailsAt.field Kinds.ofCode_eq_none_iff fun kinds _ => ?_
  refine FailsAt.field numberIn_eq_none_iff fun longest _ => ?_
  refine FailsAt.field_or Target.ofCode_eq_none_iff fun target ht => ?_
  refine FailsAt.value ?_ fun _ => ?_
  · rw [targetAllowed_eq_false_iff, indexOf_eq_some hi, Target.ofCode_eq_some ht]
  refine FailsAt.field flagOf_eq_none_iff fun isPresent hpresent => ?_
  refine FailsAt.value ?_ fun _ => FailsAt.passed _
  rw [rewriteFits_eq_false_iff, flagOf_eq_some hpresent]

/-- The field of a SET_DEFAULT that fails first (R64). -/
theorem checkSetDefault_failsAt (b1 b2 : Byte) :
    FailsAt (checkSetDefault b1 b2)
      (if 7 ≤ b1.toNat then some 1
      else if 4 ≤ b2.toNat ∨ (b1 = 6 ∧ (b2 = 1 ∨ b2 = 3)) then some 2
      else none) := by
  refine FailsAt.field indexOf_eq_none_iff fun i hi => ?_
  refine FailsAt.field_or Target.ofCode_eq_none_iff fun target ht => ?_
  refine FailsAt.value ?_ fun _ => FailsAt.passed _
  rw [targetAllowed_eq_false_iff, indexOf_eq_some hi, Target.ofCode_eq_some ht]

/-- What the checks of SET_DEFAULT make of a target its ingress may name (R58, R64). -/
theorem checkSetDefault_lawful {i : IngressNo} {target : Target} (h : i = 6 → target ≠ .relay ∧ target ≠ .both) :
    checkSetDefault (BitVec.ofNat 8 i.val) target.code = .ok (i, target) := by
  simp only [checkSetDefault, bind_eq_ok, pure_eq_ok, needField_eq_ok, needValue_eq_ok]
  exact ⟨i, indexOf_ofNat i (by decide), target, Target.ofCode_code _, (), (targetAllowed_iff _ _).mpr h, rfl⟩

/-- The index field of a READ_WINDOW: a window, or 8 for the default action (R66). -/
theorem readIndex_eq_none_iff {b : Byte} :
    (if b = 0x08#8 then some none else (indexOf Config.windowCount b).map some) = none ↔ 9 ≤ b.toNat := by
  split
  · next h => simp [h]
  · next h =>
    rw [Option.map_eq_none_iff, indexOf_eq_none_iff]
    change 8 ≤ b.toNat ↔ 9 ≤ b.toNat
    bv_omega

/-- The field of a READ_WINDOW that fails first (R66). -/
theorem checkReadWindow_failsAt (b1 b2 b3 : Byte) :
    FailsAt (checkReadWindow b1 b2 b3)
      (if 7 ≤ b1.toNat then some 1
      else if 2 ≤ b2.toNat then some 2
      else if 9 ≤ b3.toNat then some 3
      else none) := by
  refine FailsAt.field indexOf_eq_none_iff fun i _ => ?_
  refine FailsAt.field Copy.ofCode_eq_none_iff fun copy _ => ?_
  exact FailsAt.field readIndex_eq_none_iff fun index _ => FailsAt.passed _

theorem checkReadWindow_window (i : IngressNo) (copy : Copy) (k : WindowNo) :
    checkReadWindow (BitVec.ofNat 8 i.val) copy.code (BitVec.ofNat 8 k.val) = .ok (i, copy, some k) := by
  have hne : BitVec.ofNat 8 k.val ≠ 0x08#8 := by revert k; decide
  rw [checkReadWindow, indexOf_ofNat i (by decide), Copy.ofCode_code, if_neg hne, indexOf_ofNat k (by decide)]
  rfl

theorem checkReadWindow_default (i : IngressNo) (copy : Copy) :
    checkReadWindow (BitVec.ofNat 8 i.val) copy.code 0x08#8 = .ok (i, copy, none) := by
  rw [checkReadWindow, indexOf_ofNat i (by decide), Copy.ofCode_code, if_pos rfl]
  rfl

/-- A byte below 2 names a copy of the table, 0 the active one (R54, R66). -/
theorem copy_of_lt {b : Byte} (h : b.toNat < 2) (g : Ingress) :
    ∃ copy : Copy, copy.code = b ∧ g.copy copy = if b = 0 then g.active else g.staged := by
  cases hc : Copy.ofCode b with
  | none => exact absurd (Copy.ofCode_eq_none_iff.mp hc) (by omega)
  | some copy =>
    obtain rfl := Copy.ofCode_eq_some hc
    exact ⟨copy, rfl, by cases copy <;> rfl⟩

/-! ## Every ingress at once -/

theorem allIngresses_eq : allIngresses = List.finRange 7 := by decide

/-- The ingresses named are changed one after another, each once. -/
theorem State.foldl_modIngress (f : Ingress → Ingress) {is : List IngressNo} (hnodup : is.Nodup) (s : State) :
    is.foldl (fun s i => s.modIngress i f) s =
      { s with ingresses := Vector.ofFn fun i => if i ∈ is then f (s.ingress i) else s.ingress i } := by
  induction is generalizing s with
  | nil =>
    have hsame : (Vector.ofFn fun i => s.ingress i) = s.ingresses := by
      ext i hi
      simp [State.ingress, Vector.get]
    simp [hsame]
  | cons i is ih =>
    obtain ⟨hi, his⟩ := List.nodup_cons.mp hnodup
    have hstep (j : IngressNo) :
        (if j ∈ is then f ((s.modIngress i f).ingress j) else (s.modIngress i f).ingress j) =
          if j ∈ i :: is then f (s.ingress j) else s.ingress j := by
      by_cases hj : j = i
      · subst hj
        rw [if_neg hi, if_pos List.mem_cons_self, State.ingress_modIngress_same]
      · rw [State.ingress_modIngress_other s f hj]
        simp [hj]
    rw [List.foldl_cons, ih his]
    simp only [hstep]
    rfl

/-- All seven ingresses are changed at once (R65, R68). -/
theorem State.modIngresses_eq (s : State) (f : Ingress → Ingress) :
    s.modIngresses f = { s with ingresses := Vector.ofFn fun i => f (s.ingress i) } := by
  have hall (i : IngressNo) : i ∈ allIngresses := by revert i; decide
  rw [State.modIngresses, State.foldl_modIngress f (by decide)]
  simp only [hall, if_true]

theorem State.ingress_modIngresses (s : State) (f : Ingress → Ingress) (i : IngressNo) :
    (s.modIngresses f).ingress i = f (s.ingress i) := by
  rw [State.modIngresses_eq]
  simp [State.ingress]

/-! ## What the requests write -/

section
variable {s : State} {r : Request} {rest : List Request} {b1 b2 b3 : Byte}

/-- SET_WINDOW: refused as its checks say, or exactly the staged window is replaced (R62, R63). -/
theorem execSetWindow_checked {fields : List Byte} (hr : s.Ready r rest) (hb : r.body = 0x20#8 :: fields)
    (hlength : fields.length = 16) :
    (∀ x d, checkSetWindow fields = .error (x, d) → exec .setWindow s = .next (s.replied r rest x d [])) ∧
      ∀ i k w, checkSetWindow fields = .ok (i, k, w) →
        exec .setWindow s = .next (State.replied
          { s with ingresses := s.ingresses.set i ((s.ingress i).stageWindow k w) } r rest .ok 0
          ([BitVec.ofNat 8 i.val, BitVec.ofNat 8 k.val] ++ bytes16 (s.ingress i).generation)) := by
  obtain ⟨hrefused, haccepted⟩ := State.serve_checked (act := fun r s => s.runSetWindow r)
    (check := checkSetWindow fields)
    (go := fun (i, k, w) => ((s.taken rest).modIngress i fun g => g.stageWindow k w).answer r .ok 0
      ([byteOf i.val, byteOf k.val] ++ bytes16 (s.ingress i).generation))
    hr (hb ▸ requestOf_setWindow fields hlength) (by simp only [State.runSetWindow, hb]; rfl)
  refine ⟨fun x d hc => congrArg _ (hrefused x d hc), fun i k w hc => ?_⟩
  exact congrArg Host.Outcome.next ((haccepted _ hc).trans (State.answer_eq _ r .ok 0 _))

/-- SET_DEFAULT: refused as its checks say, or exactly the staged default is replaced (R64). -/
theorem execSetDefault_checked (hr : s.Ready r rest) (hb : r.body = [0x21#8, b1, b2]) :
    (∀ x d, checkSetDefault b1 b2 = .error (x, d) → exec .setDefault s = .next (s.replied r rest x d [])) ∧
      ∀ (i : IngressNo) target, checkSetDefault b1 b2 = .ok (i, target) →
        exec .setDefault s = .next (State.replied
          { s with
            ingresses := s.ingresses.set i
              { s.ingress i with staged := { (s.ingress i).staged with default := target } } }
          r rest .ok 0 (BitVec.ofNat 8 i.val :: bytes16 (s.ingress i).generation)) := by
  obtain ⟨hrefused, haccepted⟩ := State.serve_checked (act := fun r s => s.runSetDefault r)
    (check := checkSetDefault b1 b2)
    (go := fun (i, target) =>
      ((s.taken rest).modIngress i fun g => { g with staged := { g.staged with default := target } }).answer r .ok 0
        (byteOf i.val :: bytes16 (s.ingress i).generation))
    hr (hb ▸ requestOf_setDefault b1 b2) (by simp only [State.runSetDefault, hb]; rfl)
  refine ⟨fun x d hc => congrArg _ (hrefused x d hc), fun i target hc => ?_⟩
  exact congrArg Host.Outcome.next ((haccepted _ hc).trans (State.answer_eq _ r .ok 0 _))

/-- READ_WINDOW: refused as its checks say, or answered with nothing changed (R66). -/
theorem execReadWindow_checked (hr : s.Ready r rest) (hb : r.body = [0x22#8, b1, b2, b3]) :
    (∀ x d, checkReadWindow b1 b2 b3 = .error (x, d) → exec .readWindow s = .next (s.replied r rest x d [])) ∧
      ∀ (i : IngressNo) copy index, checkReadWindow b1 b2 b3 = .ok (i, copy, index) →
        exec .readWindow s = .next (s.replied r rest .ok 0 ((s.ingress i).readWindow i copy index)) := by
  obtain ⟨hrefused, haccepted⟩ := State.serve_checked (act := fun r s => s.runReadWindow r)
    (check := checkReadWindow b1 b2 b3)
    (go := fun (i, copy, index) => (s.taken rest).answer r .ok 0 ((s.ingress i).readWindow i copy index))
    hr (hb ▸ requestOf_readWindow b1 b2 b3) (by simp only [State.runReadWindow, hb]; rfl)
  refine ⟨fun x d hc => congrArg _ (hrefused x d hc), fun i copy index hc => ?_⟩
  exact congrArg Host.Outcome.next ((haccepted _ hc).trans (State.answer_eq _ r .ok 0 _))

/-- COMMIT, by what its field names (R67, R68). -/
theorem execCommit_checked (hr : s.Ready r rest) (hb : r.body = [0x23#8, b1]) :
    (ingressOrAll b1 = none → exec .commit s = .next (s.replied r rest .badValue 1 [])) ∧
      (∀ i, ingressOrAll b1 = some (some i) →
        exec .commit s = .next (State.replied
          { s with ingresses := s.ingresses.set i (s.ingress i).commit } r rest .ok 0
          (BitVec.ofNat 8 i.val :: bytes16 ((s.ingress i).generation + 1)))) ∧
      (ingressOrAll b1 = some none →
        exec .commit s = .next (State.replied
          { s with ingresses := Vector.ofFn fun i => (s.ingress i).commit } r rest .ok 0
          ((List.finRange 7).flatMap fun i => bytes16 ((s.ingress i).generation + 1)))) := by
  have hexec : exec .commit s = .next ((s.taken rest).runCommit r) := by
    rw [exec, execCommit, State.serve_ready _ hr (hb ▸ requestOf_commit b1)]
  rw [hexec]
  refine ⟨fun hx => congrArg _ ?_, fun i hx => congrArg _ ?_, fun hx => congrArg _ ?_⟩
  · have h : (s.taken rest).runCommit r = (s.taken rest).refuse r .badValue 1 := by
      simp only [State.runCommit, hb, hx, needField_none, State.afterCheck_error]
    exact h.trans (State.refuse_eq _ r .badValue 1)
  · have h : (s.taken rest).runCommit r = ((s.taken rest).modIngress i Ingress.commit).answer r .ok 0
        (BitVec.ofNat 8 i.val :: bytes16 ((s.ingress i).generation + 1)) := by
      simp only [State.runCommit, hb, hx, needField_some, State.afterCheck_ok, State.ingress_modIngress_same]
      rfl
    exact h.trans (State.answer_eq _ r .ok 0 _)
  · have h : (s.taken rest).runCommit r = ((s.taken rest).modIngresses Ingress.commit).answer r .ok 0
        ((List.finRange 7).flatMap fun i => bytes16 ((s.ingress i).generation + 1)) := by
      simp only [State.runCommit, hb, hx, needField_some, State.afterCheck_ok, State.ingress_modIngresses,
        allIngresses_eq]
      rfl
    rw [h, State.modIngresses_eq]
    exact State.answer_eq _ r .ok 0 _

/-- DISCARD_STAGED, by what its field names (R65). -/
theorem execDiscardStaged_checked (hr : s.Ready r rest) (hb : r.body = [0x24#8, b1]) :
    (ingressOrAll b1 = none → exec .discardStaged s = .next (s.replied r rest .badValue 1 [])) ∧
      (∀ i, ingressOrAll b1 = some (some i) →
        exec .discardStaged s = .next (State.replied
          { s with ingresses := s.ingresses.set i (s.ingress i).discardStaged } r rest .ok 0 [b1])) ∧
      (ingressOrAll b1 = some none →
        exec .discardStaged s = .next (State.replied
          { s with ingresses := Vector.ofFn fun i => (s.ingress i).discardStaged } r rest .ok 0 [b1])) := by
  have hexec : exec .discardStaged s = .next ((s.taken rest).runDiscardStaged r) := by
    rw [exec, execDiscardStaged, State.serve_ready _ hr (hb ▸ requestOf_discardStaged b1)]
  rw [hexec]
  refine ⟨fun hx => congrArg _ ?_, fun i hx => congrArg _ ?_, fun hx => congrArg _ ?_⟩
  · have h : (s.taken rest).runDiscardStaged r = (s.taken rest).refuse r .badValue 1 := by
      simp only [State.runDiscardStaged, hb, hx, needField_none, State.afterCheck_error]
    exact h.trans (State.refuse_eq _ r .badValue 1)
  · have h : (s.taken rest).runDiscardStaged r =
        ((s.taken rest).modIngress i Ingress.discardStaged).answer r .ok 0 [b1] := by
      simp only [State.runDiscardStaged, hb, hx, needField_some, State.afterCheck_ok]
    exact h.trans (State.answer_eq _ r .ok 0 _)
  · have h : (s.taken rest).runDiscardStaged r =
        ((s.taken rest).modIngresses Ingress.discardStaged).answer r .ok 0 [b1] := by
      simp only [State.runDiscardStaged, hb, hx, needField_some, State.afterCheck_ok]
    rw [h, State.modIngresses_eq]
    exact State.answer_eq _ r .ok 0 _

end

/-- Settles O55: the field that fails first (`checkSetWindow_failsAt`, `checkSetDefault_failsAt`), and the lawful record that passing
fields spell (`checkSetWindow_bytes`). -/
theorem stagedTableWritten : Obligations.StagedTableWritten := by
  intro s r rest hr
  refine ⟨?_, ?_, fun b1 b2 hb => ?_, ?_⟩
  · intro b1 b2 b3 m2 m1 m0 k2 k1 k0 b6 b7 b8 b9 w2 w1 w0 hb unmasked failing
    have hfails : FailsAt (checkSetWindow [b1, b2, b3, m2, m1, m0, k2, k1, k0, b6, b7, b8, b9, w2, w1, w0]) failing :=
      checkSetWindow_failsAt ..
    refine ⟨fun n hn => ?_, fun hn => ?_⟩ <;> rw [hn] at hfails
    · exact (execSetWindow_checked hr hb rfl).1 _ _ hfails
    · obtain ⟨⟨i, k, w⟩, hok⟩ := hfails
      exact ⟨i, k, w, checkSetWindow_ok hok, by rw [hb, checkSetWindow_bytes hok]⟩
  · intro i k w hw hb g staged
    exact (execSetWindow_checked hr hb rfl).2 i k w (checkSetWindow_lawful k hw)
  · obtain ⟨hrefused, -⟩ := execSetDefault_checked hr hb
    have hfails := checkSetDefault_failsAt b1 b2
    refine ⟨fun h1 => ?_, fun h1 h2 => ?_⟩
    · rw [if_pos h1] at hfails
      exact hrefused _ _ hfails
    · rw [if_neg (Nat.not_le_of_lt h1), if_pos h2] at hfails
      exact hrefused _ _ hfails
  · intro i target htarget hb g
    exact (execSetDefault_checked hr hb).2 i target (checkSetDefault_lawful htarget)

/-- Settles O56, request by request: the field that fails, or the copies of the tables that the request reads or writes. -/
theorem tablesReadCommittedDiscarded : Obligations.TablesReadCommittedDiscarded := by
  intro s r rest b1 b2 b3 hr refused committed discarded
  refine ⟨fun hb => ?_, fun hb => ?_, fun hb => ?_⟩
  · obtain ⟨hrefused, haccepted⟩ := execReadWindow_checked hr hb
    have hfails := checkReadWindow_failsAt b1 b2 b3
    refine ⟨fun h1 => ?_, fun h1 h2 => ?_, fun h1 h2 h3 => ?_, ?_⟩
    · rw [if_pos h1] at hfails
      exact hrefused _ _ hfails
    · rw [if_neg (Nat.not_le_of_lt h1), if_pos h2] at hfails
      exact hrefused _ _ hfails
    · rw [if_neg (Nat.not_le_of_lt h1), if_neg (Nat.not_le_of_lt h2), if_pos h3] at hfails
      exact hrefused _ _ hfails
    · intro i hi h2 table
      obtain ⟨copy, rfl, htable⟩ := copy_of_lt h2 (s.ingress i)
      have htable : (s.ingress i).copy copy = table := htable
      subst hi
      refine ⟨fun k hk => ?_, fun hk => ?_⟩ <;> subst hk <;> rw [← htable]
      · exact haccepted i copy (some k) (checkReadWindow_window i copy k)
      · exact haccepted i copy none (checkReadWindow_default i copy)
  · obtain ⟨hrefused, hone, hall⟩ := execCommit_checked hr hb
    refine ⟨fun h7 hne => hrefused (ingressOrAll_none h7 hne), fun i hi => ?_, fun hb1 => hall (by rw [hb1]; rfl)⟩
    subst hi
    exact hone i (ingressOrAll_ingress i)
  · obtain ⟨hrefused, hone, hall⟩ := execDiscardStaged_checked hr hb
    refine ⟨fun h7 hne => hrefused (ingressOrAll_none h7 hne), fun i hi => ?_, fun hb1 => hall (by rw [hb1]; rfl)⟩
    subst hi
    exact hone i (ingressOrAll_ingress i)

end Sys2Proof.Machine
end

section
/-! SUPPORT. The relay queue, its head and the host entries: how an entry becomes DONE and an unsent head leaves (R88, R98), the
outcomes SENT and FAULT of an attempt (R94 to R101), and the requests SET_RELAY, HOLD_RELAY, RELEASE_RELAY, FLUSH_RELAY and CANCEL. -/

namespace Sys2Proof.Machine

/-! ## An entry that becomes DONE, a head that is abandoned -/

theorem Store.record_of_held {st : Store} {n : SlotNo} {source : Source} {record : SlotRecord} {holders : Holders}
    (h : st.slot n = .held source record holders) : st.record n = record := by
  simp [Store.record, h]

theorem Store.source_of_held {st : Store} {n : SlotNo} {source : Source} {record : SlotRecord} {holders : Holders}
    (h : st.slot n = .held source record holders) : st.source n = source := by
  simp [Store.source, h]

theorem Relay.headRecord_of_head {k : Relay} {h : HeadRecord} (hh : k.head = some h) : k.headRecord = h := by
  simp [Relay.headRecord, hh]

/-- The release of a host entry's slot: it has no other holder, and it stands in no use count (R16, R18, R28). -/
theorem Store.leave_entry_host {st : Store} {n : SlotNo} {record : SlotRecord}
    (h : st.slot n = .held .host record ⟨false, false, true⟩) :
    st.leave .entry n = { st with slots := st.slots.set n .free, freeList := st.freeList ++ [n] } := by
  rw [Store.leave_last h rfl, Store.free_held h]
  rfl

/-- Settles O21: `State.entryDone_eq`, with the slot's record read and its only holder gone. -/
theorem entryDoneReportsAndReleases : Obligations.EntryDoneReportsAndReleases := by
  intro s e outcome n record hslot hheld
  rw [State.entryDone_eq hslot, Store.record_of_held hheld, Store.leave_entry_host hheld]
  rfl

/-- The head leaves unsent: the event first, from the slot as it still stands, then the removal (R98, R102). -/
theorem State.abandonHead_cons {s : State} (reason : AbandonReason) {n : SlotNo} {rest : List SlotNo}
    (hq : s.relay.queue = n :: rest) :
    s.abandonHead reason =
      (s.storeEvent (.relayAbandon reason (s.store.source n) ((s.store.record n).seq.getD 0) (s.store.record n).tagOut
        s.relay.headRecord.attempts)).removeHead := by
  simp only [State.abandonHead, hq]

/-- Settles O22: `State.abandonHead_cons` with the fields of the slot and the head record, then `State.removeHead_cons`. -/
theorem headAbandonedWithEvent : Obligations.HeadAbandonedWithEvent := by
  intro s reason n rest h i seq record holders hq hh hheld hseq
  rw [State.abandonHead_cons reason hq, Store.source_of_held hheld, Store.record_of_held hheld,
    Relay.headRecord_of_head hh, hseq, State.removeHead_cons (by exact hq)]
  rfl

/-! ## The outcomes SENT and FAULT -/

theorem execOutcomeSent_eq {s : State} {read : List Level} {c : Candidate} (hc : s.trunk.inFlight = some c)
    (hr : attemptOutcome s.trunk.sending read = some .sent) :
    exec (.outcomeSent read) s = .next ((s.applySent c).endAttempt.recordOutcome .sent).detachIfIdle := by
  simp [exec, execOutcomeSent, hc, State.outcomeIs, hr]

theorem execOutcomeFault_eq {s : State} {read : List Level} {c : Candidate} (hc : s.trunk.inFlight = some c)
    (hr : attemptOutcome s.trunk.sending read = some .fault) :
    exec (.outcomeFault read) s = .next ((s.applyFault c).endAttempt.recordOutcome .fault).detachIfIdle := by
  simp [exec, execOutcomeFault, hc, State.outcomeIs, hr]

/-- The relay block and the entries take an outcome; the trunk port is not theirs (R94). -/
theorem State.applySent_trunk (s : State) (c : Candidate) : (s.applySent c).trunk = s.trunk := by
  cases c with
  | relayHead => exact s.removeHead_trunk
  | entry e => rfl

theorem State.applyFault_trunk (s : State) (c : Candidate) : (s.applyFault c).trunk = s.trunk := by
  cases c with
  | relayHead => simp only [State.applyFault]; split_ifs <;> simp
  | entry e => simp only [State.applyFault]; split_ifs <;> simp

/-- What a recorded outcome leaves of the trunk port, applied to the relay block and the entries as `u` has them: the attempt is
over, the outcome is judged, and a detach that waited for it is completed (R94, R120, R124). -/
theorem State.outcome_settles {s u : State} (m : HealthMark) (hu : u.trunk = s.trunk) (hp : s.trunk.inProgress = none) :
    (u.endAttempt.recordOutcome m).detachIfIdle =
      let recorded :=
        State.recordOutcome { u with trunk := { s.trunk with inFlight := none, sending := [], idleCount := 0 } } m
      if s.trunk.detachPending = true then recorded.completeDetach else recorded := by
  rw [← hu] at hp ⊢
  by_cases hd : u.trunk.detachPending = true
  · rw [if_pos hd, State.detachIfIdle_idle (s := u.endAttempt.recordOutcome m) hd rfl hp]
    rfl
  · rw [if_neg hd, State.detachIfIdle_busy (s := u.endAttempt.recordOutcome m) (.inl (Bool.eq_false_iff.mpr hd))]
    rfl

/-- Settles O34: the outcome as the candidate takes it, then `State.outcome_settles`. -/
theorem outcomeSentApplied : Obligations.OutcomeSentApplied := by
  intro s read hr hp settled
  have key {c : Candidate} (hc : s.trunk.inFlight = some c) :
      exec (.outcomeSent read) s = .next (settled (s.applySent c)) := by
    rw [execOutcomeSent_eq hc hr, State.outcome_settles .sent (s.applySent_trunk c) hp]
  refine ⟨fun n rest hc hq => ?_, fun e hc => key hc⟩
  rw [key hc, State.applySent, State.removeHead_cons hq]
  rfl

/-- FAULT for the head, by the head record (R98, R101). -/
theorem State.applyFault_relayHead {s : State} {h : HeadRecord} (hh : s.relay.head = some h) :
    s.applyFault .relayHead =
      let raised : State := { s with relay := { s.relay with head := some { h with attempts := h.attempts + 1 } } }
      if h.flushPending = true then raised.abandonHead .flushed
      else if s.relay.retryLimit < h.attempts + 1 then raised.abandonHead .retries
      else raised := by
  simp only [State.applyFault, State.raiseHeadAttempts, hh]
  rfl

/-- FAULT for a host entry, by its record (R99, R100). -/
theorem State.applyFault_entry (s : State) (e : EntryNo) :
    s.applyFault (.entry e) =
      let counted : HostEntry := { s.entry e with attempts := (s.entry e).attempts + 1 }
      let raised : State := { s with entries := s.entries.set e counted }
      if (s.entry e).cancelRequested = true then raised.entryDone e .cancelled
      else if s.relay.retryLimit < (s.entry e).attempts + 1 then raised.entryDone e .abandoned
      else { s with entries := s.entries.set e { counted with state := .pending } } := by
  simp only [State.applyFault, State.entry_modEntry_same, State.modEntry_relay]
  split_ifs
  · rfl
  · rfl
  · simp only [State.modEntry, State.entry, get_set_same, set_set_same]

/-- Settles O36: the branch of FAULT that the record of the candidate decides, then `State.outcome_settles`. -/
theorem outcomeFaultApplied : Obligations.OutcomeFaultApplied := by
  intro s read hr hp settled
  have key {c : Candidate} (hc : s.trunk.inFlight = some c) :
      exec (.outcomeFault read) s = .next (settled (s.applyFault c)) := by
    rw [execOutcomeFault_eq hc hr, State.outcome_settles .fault (s.applyFault_trunk c) hp]
  refine ⟨fun h hc hh => ?_, fun e hc => ?_⟩
  · intro raised
    rw [key hc, State.applyFault_relayHead hh]
    refine ⟨fun hflush => ?_, fun hflush habove => ?_, fun hflush hwithin => ?_⟩
    · rw [if_pos hflush]
    · rw [if_neg (Bool.eq_false_iff.mp hflush), if_pos habove]
    · rw [if_neg (Bool.eq_false_iff.mp hflush), if_neg (Nat.not_lt.mpr hwithin)]
  · intro counted raised
    rw [key hc, State.applyFault_entry]
    refine ⟨fun hcancel => ?_, fun hcancel habove => ?_, fun hcancel hwithin => ?_⟩
    · rw [if_pos hcancel]
    · rw [if_neg (Bool.eq_false_iff.mp hcancel), if_pos habove]
    · rw [if_neg (Bool.eq_false_iff.mp hcancel), if_neg (Nat.not_lt.mpr hwithin)]

/-! ## SET_RELAY, the relay gate, FLUSH_RELAY and CANCEL -/

theorem flagOf_eq_decide {b : Byte} (h : b.toNat < 2) : flagOf b = some (decide (b = 1)) := by
  have hb : b = 0 ∨ b = 1 := by bv_omega
  rcases hb with rfl | rfl <;> rfl

/-- A flush without the head in flight takes the whole queue (R101). -/
theorem Relay.flush_all (k : Relay) : k.flush false = ({ k with queue := [], head := none }, k.queue) := rfl

/-- A flush with the head in flight leaves it, flush-pending, and takes what stands behind it (R101). -/
theorem Relay.flush_inFlight {k : Relay} {n : SlotNo} {behind : List SlotNo} {h : HeadRecord}
    (hq : k.queue = n :: behind) (hh : k.head = some h) :
    k.flush true = ({ k with queue := [n], head := some { h with flushPending := true } }, behind) := by
  simp [Relay.flush, hq, hh]

section
variable {s : State} {r : Request} {rest : List Request} {b1 b2 b3 : Byte}

/-- SET_RELAY: refused as its checks say, or exactly its three settings are replaced (R104). -/
theorem execSetRelay_checked (hr : s.Ready r rest) (hb : r.body = [0x30#8, b1, b2, b3]) :
    (∀ x d, checkSetRelay b2 b3 = .error (x, d) → exec .setRelay s = .next (s.replied r rest x d [])) ∧
      ∀ (limit : Nat) (inDegraded : Bool), checkSetRelay b2 b3 = .ok (limit, inDegraded) →
        exec .setRelay s = .next (State.replied
          { s with relay := { s.relay with yieldLimit := b1, retryLimit := limit, inDegraded := inDegraded } }
          r rest .ok 0 [b1, byteOf limit, flagByte inDegraded]) := by
  obtain ⟨hrefused, haccepted⟩ := State.serve_checked (act := fun r s => s.runSetRelay r) (check := checkSetRelay b2 b3)
    (go := fun (limit, inDegraded) => State.answer
      { s.taken rest with relay := { s.relay with yieldLimit := b1, retryLimit := limit, inDegraded := inDegraded } } r .ok 0
      [b1, byteOf limit, flagByte inDegraded])
    hr (hb ▸ requestOf_setRelay b1 b2 b3) (by simp only [State.runSetRelay, hb])
  refine ⟨fun x d hc => congrArg _ (hrefused x d hc), fun limit inDegraded hc => ?_⟩
  exact congrArg Host.Outcome.next ((haccepted _ hc).trans (State.answer_eq _ r .ok 0 _))

/-- The gate is set and nothing else of the relay block (R84). -/
theorem State.setGate_taken (s : State) (r : Request) (rest : List Request) (gate : Gate) :
    (s.taken rest).setGate r gate =
      State.replied { s with relay := { s.relay with gate := gate } } r rest .ok 0 [gate.code] :=
  State.answer_eq _ r .ok 0 _

theorem execHoldRelay_eq (hr : s.Ready r rest) (hb : r.body = [0x31#8]) :
    exec .holdRelay s = .next ((s.taken rest).setGate r .held) := by
  rw [exec, execHoldRelay, State.serve_ready _ hr (hb ▸ requestOf_holdRelay)]

theorem execReleaseRelay_eq (hr : s.Ready r rest) (hb : r.body = [0x32#8]) :
    exec .releaseRelay s = .next ((s.taken rest).setGate r .opened) := by
  rw [exec, execReleaseRelay, State.serve_ready _ hr (hb ▸ requestOf_releaseRelay)]

/-- FLUSH_RELAY, by what the flush leaves of the relay block and the slots it removes (R101). -/
theorem execFlushRelay_eq (hr : s.Ready r rest) (hb : r.body = [0x33#8]) {left : Relay} {removed : List SlotNo}
    (hflush : s.relay.flush (s.trunk.inFlight = some .relayHead) = (left, removed)) :
    exec .flushRelay s = .next (State.replied
      { s with relay := left, store := s.store.leaveAll .relay removed } r rest .ok 0 [byteOf removed.length]) := by
  have hrun : (s.taken rest).runFlushRelay r =
      State.answer { s.taken rest with relay := left, store := s.store.leaveAll .relay removed } r .ok 0
        [byteOf removed.length] := by
    simp only [State.runFlushRelay, hflush]
  rw [exec, execFlushRelay, State.serve_ready _ hr (hb ▸ requestOf_flushRelay)]
  exact congrArg Host.Outcome.next (hrun.trans (State.answer_eq _ r .ok 0 _))

/-- CANCEL: refused where no entry has that number, or done by the state of the entry (R89). -/
theorem execCancel_checked (hr : s.Ready r rest) (hb : r.body = [0x35#8, b1]) :
    (8 ≤ b1.toNat → exec .cancel s = .next (s.replied r rest .badValue 1 [])) ∧
      ∀ e : EntryNo, b1 = BitVec.ofNat 8 e.val → exec .cancel s = .next ((s.taken rest).cancelEntry r e) := by
  obtain ⟨hrefused, haccepted⟩ := State.serve_checked (act := fun r s => s.runCancel r)
    (check := needField 1 (indexOf Config.entryCount b1))
    (go := fun e => (s.taken rest).cancelEntry r e) hr (hb ▸ requestOf_cancel b1) (by simp only [State.runCancel, hb])
  refine ⟨fun h1 => congrArg _ (hrefused _ _ ?_), fun e h1 => congrArg _ (haccepted e ?_)⟩
  · rw [indexOf_none h1, needField_none]
  · rw [h1, indexOf_ofNat e (by decide), needField_some]

end

/-- Settles O57: the checks of SET_RELAY in order, the gate set (`State.setGate_taken`), and the two flushes
(`Relay.flush_all`, `Relay.flush_inFlight`). -/
theorem relaySettingsGateFlush : Obligations.RelaySettingsGateFlush := by
  intro s r rest b1 b2 b3 hr
  refine ⟨fun hb => ?_, fun hb => ?_, fun hb => ?_, fun hb => ⟨fun hidle => ?_, fun n behind h hflight hq hh => ?_⟩⟩
  · obtain ⟨hrefused, haccepted⟩ := execSetRelay_checked hr hb
    refine ⟨fun h2 => hrefused _ _ ?_, fun h2 h3 => hrefused _ _ ?_, fun h2 h3 => ?_⟩
    · rw [checkSetRelay, numberIn_none (.inr h2)]; rfl
    · rw [checkSetRelay, numberIn_of (Nat.zero_le _) (Nat.le_of_lt_succ h2), flagOf_none h3]; rfl
    · have hflag := flagOf_eq_decide h3
      have hok : checkSetRelay b2 b3 = .ok (b2.toNat, decide (b3 = 1)) := by
        rw [checkSetRelay, numberIn_of (Nat.zero_le _) (Nat.le_of_lt_succ h2), hflag]; rfl
      rw [haccepted _ _ hok, byteOf_toNat, flagOf_eq_some hflag]
  · rw [execHoldRelay_eq hr hb, State.setGate_taken]; rfl
  · rw [execReleaseRelay_eq hr hb, State.setGate_taken]; rfl
  · have hflush : s.relay.flush (s.trunk.inFlight = some .relayHead) =
        ({ s.relay with queue := [], head := none }, s.relay.queue) := by
      rw [decide_eq_false hidle, Relay.flush_all]
    exact execFlushRelay_eq hr hb hflush
  · have hflush : s.relay.flush (s.trunk.inFlight = some .relayHead) =
        ({ s.relay with queue := [n], head := some { h with flushPending := true } }, behind) := by
      rw [decide_eq_true hflight, Relay.flush_inFlight hq hh]
    exact execFlushRelay_eq hr hb hflush

/-! The states of an entry that a CANCEL finds (R89). -/

theorem State.cancelEntry_pending {s : State} (r : Request) {e : EntryNo} (h : (s.entry e).state = .pending) :
    s.cancelEntry r e =
      (s.entryDone e .cancelled).answer r .ok 0 [byteOf e.val, byteOf (s.entry e).attempts] := by
  simp only [State.cancelEntry, h]

theorem State.cancelEntry_inFlight {s : State} (r : Request) {e : EntryNo} (h : (s.entry e).state = .inFlight) :
    s.cancelEntry r e =
      (s.modEntry e fun x => { x with cancelRequested := true }).answer r .deferred 0 [byteOf e.val] := by
  simp only [State.cancelEntry, h]

theorem State.cancelEntry_over {s : State} (r : Request) {e : EntryNo}
    (h : (s.entry e).state = .free ∨ (s.entry e).state = .done) :
    s.cancelEntry r e = s.refuse r .state (s.entry e).state.code := by
  rcases h with h | h <;> simp only [State.cancelEntry, h]

/-- Settles O59: the entry's number, then what `State.cancelEntry` does in its state. -/
theorem cancelByEntryState : Obligations.CancelByEntryState := by
  intro s r rest b1 hr hb
  obtain ⟨hrefused, haccepted⟩ := execCancel_checked hr hb
  refine ⟨hrefused, fun e h1 => ?_⟩
  rw [haccepted e h1, h1]
  refine ⟨fun hpending => congrArg _ ?_, fun hflight => congrArg _ ?_, fun hover => congrArg _ ?_⟩
  · exact (State.cancelEntry_pending (s := s.taken rest) r hpending).trans (State.answer_eq _ r .ok 0 _)
  · exact (State.cancelEntry_inFlight (s := s.taken rest) r hflight).trans (State.answer_eq _ r .deferred 0 _)
  · exact (State.cancelEntry_over (s := s.taken rest) r hover).trans (State.refuse_eq _ r .state _)

end Sys2Proof.Machine
end

section
/-! SUPPORT. The trunk port: the judgement of its health history (R120, R121), the completion of a detach and the DETACH that
asks for one (R123, R124), and the start of a frame at its receiver (R114). -/

namespace Sys2Proof.Machine

/-! ## The health history -/

/-- Of at most 16 outcomes and a new one the last 16 are kept (R120). -/
theorem recordMark_eq_drop {history : List HealthMark} (h : history.length ≤ 16) (m : HealthMark) :
    recordMark history m = (history ++ [m]).drop (history.length - 15) := by
  unfold recordMark
  split
  · next hfull =>
    have hlength : history.length = 16 := by simp [Config.historyLength] at hfull; omega
    rw [hlength]
  · next hroom =>
    have hnone : history.length - 15 = 0 := by simp [Config.historyLength] at hroom; omega
    rw [hnone, List.drop_zero]

section
variable {s : State} {m : HealthMark}

/-- An outcome after which the port is judged to be where it is stores no event (R127). -/
theorem State.recordOutcome_unchanged
    (h : judgedState s.trunk.state ((recordMark s.trunk.history m).count .fault) = s.trunk.state) :
    s.recordOutcome m = { s with trunk := { s.trunk with history := recordMark s.trunk.history m } } := by
  simp only [State.recordOutcome, h, if_true]

/-- An outcome after which the port is judged to be in another state stores TRUNK_STATE with that state and f (R121, R127). -/
theorem State.recordOutcome_changed {state : TrunkState}
    (h : judgedState s.trunk.state ((recordMark s.trunk.history m).count .fault) = state) (hne : state ≠ s.trunk.state) :
    s.recordOutcome m =
      { s with
        trunk := { s.trunk with history := recordMark s.trunk.history m, state := state }
        events := s.events.push (.trunkState state ((recordMark s.trunk.history m).count .fault)) s.stamp } := by
  simp only [State.recordOutcome, h, if_neg hne]

end

/-- Settles O33, threshold by threshold: the new outcome either changes the judged state or leaves it. -/
theorem healthHistoryJudgement : Obligations.HealthHistoryJudgement := by
  intro s m hlength history f judged changed
  have hhistory : recordMark s.trunk.history m = history := recordMark_eq_drop hlength m
  have hf : (recordMark s.trunk.history m).count .fault = f := by rw [hhistory]
  have hchanged {state : TrunkState} (hj : judgedState s.trunk.state f = state) (hne : state ≠ s.trunk.state) :
      s.recordOutcome m = changed state := by
    rw [State.recordOutcome_changed (hf ▸ hj) hne, hhistory]
  have hstays {state : TrunkState} (hs : s.trunk.state = state) (hj : judgedState state f = state) :
      s.recordOutcome m = { s with trunk := judged state } := by
    subst hs
    rw [State.recordOutcome_unchanged (hf ▸ hj), hhistory]
  refine ⟨fun hs h4 => hchanged ?_ ?_, fun hs h3 => hstays hs ?_, fun hs h12 => hchanged ?_ ?_,
    fun hs h2 h11 => hstays hs ?_, fun hs h1 => hchanged ?_ ?_⟩
  · rw [hs, judgedState, if_pos h4]
  · simp [hs]
  · rw [judgedState, if_neg (by omega)]
  · rw [hs, judgedState, if_pos h12]
  · simp [hs]
  · rw [judgedState, if_neg (by omega), if_neg (by omega)]
  · rw [hs, judgedState, if_neg (by omega), if_pos h1]
  · simp [hs]

/-! ## The completion of a detach -/

/-- A detach that completes with a DETACH parked answers it before the arrival is reported (R124). -/
theorem State.completeDetach_parked {s : State} (h : s.trunk.parkedDetach = true) :
    s.completeDetach =
      ((State.storeEvent { s with trunk := s.trunk.detached } (.trunkState .detached 0)).answerParked .detach
        (TrunkState.detached.code :: bytes16 (s.ingress trunkIngress).nextSeq)).reportTrunk := by
  rw [State.completeDetach, h]
  rfl

/-- Settles O37: without a parked DETACH by `State.completeDetach_unparked`, with one by `State.completeDetach_parked`. -/
theorem detachCompletionSteps : Obligations.DetachCompletionSteps := by
  intro s detached
  exact ⟨fun hnot => State.completeDetach_unparked hnot, fun hparked => State.completeDetach_parked hparked⟩

/-! ## DETACH -/

section
variable {s : State}

theorem State.runDetach_detached (r : Request) (h : s.trunk.state = .detached) :
    s.runDetach r = s.answer r .ok 0 (TrunkState.detached.code :: bytes16 (s.ingress trunkIngress).nextSeq) := by
  rw [State.runDetach, if_pos h, State.detachResult, h]

/-- A first DETACH is parked, and completes at once if nothing is on the line (R123, R124). -/
theorem State.runDetach_first (r : Request) (h : s.trunk.state ≠ .detached) (hpending : s.trunk.detachPending = false) :
    s.runDetach r =
      (State.park { s with trunk := { s.trunk with detachPending := true, parkedDetach := true } } r .detach).detachIfIdle := by
  rw [State.runDetach, if_neg h, if_pos hpending]

theorem State.runDetach_busy (r : Request) (h : s.trunk.state ≠ .detached) (hpending : s.trunk.detachPending = true)
    (hparked : s.trunk.parkedDetach = true) : s.runDetach r = s.refuse r .busy 0 := by
  rw [State.runDetach, if_neg h, if_neg (by simp [hpending]), if_pos hparked]

/-- A DETACH over the pending detach of a STOP, which parked none (R123). -/
theorem State.runDetach_joins (r : Request) (h : s.trunk.state ≠ .detached) (hpending : s.trunk.detachPending = true)
    (hparked : s.trunk.parkedDetach = false) :
    s.runDetach r = State.park { s with trunk := { s.trunk with parkedDetach := true } } r .detach := by
  rw [State.runDetach, if_neg h, if_neg (by simp [hpending]), if_neg (by simp [hparked])]

theorem execDetach_eq {r : Request} {rest : List Request} (hr : s.Ready r rest) (hb : r.body = [0x42#8]) :
    exec .detach s = .next ((s.taken rest).runDetach r) := by
  rw [exec, execDetach, State.serve_ready _ hr (hb ▸ requestOf_detach)]

end

/-- Settles O54, by the state of the port, the detach that is pending and the DETACH that is parked. -/
theorem detachByState : Obligations.DetachByState := by
  intro s r rest hr hb parked
  rw [execDetach_eq hr hb]
  refine ⟨fun hs => congrArg _ ?_, fun hs hp hline => congrArg _ ?_, fun hs hp hflight hprogress => congrArg _ ?_,
    fun hs hp hparked => congrArg _ ?_, fun hs hp hparked => congrArg _ ?_⟩
  · exact (State.runDetach_detached (s := s.taken rest) r hs).trans (State.answer_eq _ r .ok 0 _)
  · exact (State.runDetach_first (s := s.taken rest) r hs hp).trans (State.detachIfIdle_busy (s := parked) (.inr hline))
  · exact (State.runDetach_first (s := s.taken rest) r hs hp).trans
      (State.detachIfIdle_idle (s := parked) rfl hflight hprogress)
  · exact (State.runDetach_busy (s := s.taken rest) r hs hp hparked).trans (State.refuse_eq _ r .busy 0)
  · have hasked : { s.trunk with detachPending := true, parkedDetach := true } = { s.trunk with parkedDetach := true } := by
      rw [← hp]
    refine (State.runDetach_joins (s := s.taken rest) r hs hp hparked).trans ?_
    simp only [parked, hasked]
    rfl

/-! ## The start of a frame at the trunk receiver -/

theorem execTrunkStartOfFrame_away {s : State} (h : s.trunk.idleCount ≠ 12) : exec .trunkStartOfFrame s = .next s := by
  refine congrArg _ (if_neg fun ⟨_, _, hidle, _⟩ => h ?_)
  exact s.trunk.atIdlePoint_iff.mp hidle

theorem execTrunkStartOfFrame_eq {s : State} (hreceiving : s.trunk.state.receiving = true)
    (hsync : s.trunk.synchronised = true) (hidle : s.trunk.idleCount = 12) (hpending : s.trunk.detachPending = false)
    (hflight : s.trunk.inFlight = none) (hprogress : s.trunk.inProgress = none) :
    exec .trunkStartOfFrame s = .next (s.trunkFrameStart s.stamp) :=
  congrArg _ (if_pos ⟨hreceiving, hsync, s.trunk.atIdlePoint_iff.mpr hidle, hpending, hflight, hprogress⟩)

theorem TrunkState.receiving_iff {k : TrunkState} : k.receiving = true ↔ k = .active ∨ k = .degraded ∨ k = .suspended := by
  cases k <;> simp [TrunkState.receiving]

/-- Settles O30: the three decisions of `State.allocate`, and the port as the start of a frame leaves it. -/
theorem trunkStartOfFrameDecision : Obligations.TrunkStartOfFrameDecision := by
  refine ⟨fun _ => execTrunkStartOfFrame_away, ?_⟩
  intro s hstate hsync hidle hpending hflight hprogress following need
  have hneed : s.reserveNeed = need := by rw [State.reserveNeed, State.holdingEntries_eq]
  have hdecided {u : State} {p : InProgress} (ha : s.allocate trunkIngress s.stamp = (u, p)) (hu : u.trunk = s.trunk) :
      s.trunkFrameStart s.stamp = { u with trunk := following p } := by
    rw [State.trunkFrameStart, ha, hu]
  rw [execTrunkStartOfFrame_eq (TrunkState.receiving_iff.mpr hstate) hsync hidle hpending hflight hprogress]
  refine ⟨fun hquota => congrArg _ ?_, fun hquota hfree => congrArg _ ?_, fun n rest hquota hfree hn => congrArg _ ?_⟩
  · exact hdecided (State.allocate_over s.stamp hquota) rfl
  · exact hdecided (State.allocate_none s.stamp hquota (hneed ▸ hfree)) rfl
  · exact hdecided (State.allocate_granted s.stamp hquota (hneed ▸ hfree) hn) rfl

end Sys2Proof.Machine
end

section
/-! SUPPORT. Which commands write the trunk port: every other one leaves it as it is. -/

namespace Sys2Proof.Machine

/-- The commands that write the trunk port: the resets, the events on its line, the outcomes of its attempts, and the requests
that attach or detach it. -/
def Instr.writesTrunk : Instr → Bool
  | .powerReset _ _ | .replyCompleted _ _ | .trunkStartOfFrame | .trunkEndOfFrame _ | .trunkJoinIdleGap
  | .trunkReceiverResync | .transmitOpportunity | .outcomeSent _ | .outcomeLost _ | .outcomeFault _ | .stop | .attach
  | .detach | .resume => true
  | _ => false

section
variable (s : State) (r : Request)

/-! ## Operations -/

@[simp] theorem State.answer_trunk (x : Status) (d : Byte) (result : List Byte) :
    (s.answer r x d result).trunk = s.trunk := s.produceReply_trunk _ _ _

@[simp] theorem State.refuse_trunk (x : Status) (d : Byte) : (s.refuse r x d).trunk = s.trunk := s.answer_trunk r x d []

@[simp] theorem State.modIngresses_trunk (f : Ingress → Ingress) : (s.modIngresses f).trunk = s.trunk := by
  rw [State.modIngresses_eq]

@[simp] theorem State.sessionOpened_trunk : s.sessionOpened.trunk = s.trunk := by
  unfold State.sessionOpened
  split <;> rfl

@[simp] theorem State.startNotice_trunk : s.startNotice.trunk = s.trunk := by
  unfold State.startNotice
  split
  · rfl
  · rfl
  unfold State.startCapture
  split
  · split <;> rfl
  · rfl

theorem State.listenFrameEnd_trunk (k : TapNo) (verdict : Verdict) : (s.listenFrameEnd k verdict).trunk = s.trunk := by
  cases verdict <;> rfl

theorem State.closingFrameEnd_trunk (k : TapNo) : (s.closingFrameEnd k).trunk = s.trunk := by
  unfold State.closingFrameEnd
  dsimp only
  split <;> simp

theorem State.closeTap_trunk (k : TapNo) : (s.closeTap r k).trunk = s.trunk := by
  unfold State.closeTap
  split
  · simp
  · simp
  · split <;> simp
  · simp [State.closeNow]

theorem State.closeForStop_trunk (k : TapNo) : (s.closeForStop k).trunk = s.trunk := by
  unfold State.closeForStop
  split <;> simp

theorem State.foldl_closeForStop_trunk (ks : List TapNo) : (ks.foldl State.closeForStop s).trunk = s.trunk := by
  induction ks generalizing s with
  | nil => rfl
  | cons k ks ih => rw [List.foldl_cons, ih, State.closeForStop_trunk]

/-! ## Requests -/

/-- A request whose checks lead to states with the trunk port as it was leaves the port, refused or not (R158). -/
theorem State.afterCheck_trunk {α : Type} {check : Except Refused α} {go : α → State}
    (hgo : ∀ a, (go a).trunk = s.trunk) : (s.afterCheck r check go).trunk = s.trunk := by
  unfold State.afterCheck
  split
  · exact s.refuse_trunk r _ _
  · exact hgo _

/-- A request whose execution leaves the trunk port leaves it as a command. -/
theorem State.serve_trunk {code : Option RequestCode} {act : Request → State → State}
    (hact : ∀ (r : Request) (u : State), (act r u).trunk = u.trunk) : (s.serve code act).trunk = s.trunk :=
  State.serve_cases (P := fun u => u.trunk = s.trunk) rfl fun r _ _ _ => hact r _

theorem State.runHello_trunk : (s.runHello r).trunk = s.trunk := by
  rw [State.runHello_eq, State.answer_trunk, State.sessionOpened_trunk]

theorem State.runStatus_trunk : (s.runStatus r).trunk = s.trunk := by
  unfold State.runStatus
  split
  · refine s.afterCheck_trunk r fun subject => ?_
    cases subject <;> simp
  · rfl

theorem State.runStart_trunk : (s.runStart r).trunk = s.trunk := s.afterCheck_trunk r fun _ => State.answer_trunk _ r _ _ _

theorem State.runReset_trunk : (s.runReset r).trunk = s.trunk := s.answer_trunk r .ok 0 []

theorem State.runSetTap_trunk : (s.runSetTap r).trunk = s.trunk := by
  unfold State.runSetTap
  split
  · exact s.afterCheck_trunk r fun _ => State.answer_trunk _ r _ _ _
  · rfl

theorem State.runOpenTap_trunk : (s.runOpenTap r).trunk = s.trunk := by
  unfold State.runOpenTap
  split
  · exact s.afterCheck_trunk r fun _ => State.answer_trunk _ r _ _ _
  · rfl

theorem State.runCloseTap_trunk : (s.runCloseTap r).trunk = s.trunk := by
  unfold State.runCloseTap
  split
  · exact s.afterCheck_trunk r (s.closeTap_trunk r)
  · rfl

theorem State.runSetQuota_trunk : (s.runSetQuota r).trunk = s.trunk := by
  unfold State.runSetQuota
  split
  · exact s.afterCheck_trunk r fun _ => State.answer_trunk _ r _ _ _
  · rfl

theorem State.runSetWindow_trunk : (s.runSetWindow r).trunk = s.trunk :=
  s.afterCheck_trunk r fun _ => State.answer_trunk _ r _ _ _

theorem State.runSetDefault_trunk : (s.runSetDefault r).trunk = s.trunk := by
  unfold State.runSetDefault
  split
  · exact s.afterCheck_trunk r fun _ => State.answer_trunk _ r _ _ _
  · rfl

theorem State.runReadWindow_trunk : (s.runReadWindow r).trunk = s.trunk := by
  unfold State.runReadWindow
  split
  · exact s.afterCheck_trunk r fun _ => State.answer_trunk _ r _ _ _
  · rfl

theorem State.runCommit_trunk : (s.runCommit r).trunk = s.trunk := by
  unfold State.runCommit
  split
  · refine s.afterCheck_trunk r fun ingress => ?_
    cases ingress <;> simp
  · rfl

theorem State.runDiscardStaged_trunk : (s.runDiscardStaged r).trunk = s.trunk := by
  unfold State.runDiscardStaged
  split
  · refine s.afterCheck_trunk r fun ingress => ?_
    cases ingress <;> simp
  · rfl

theorem State.runSetRelay_trunk : (s.runSetRelay r).trunk = s.trunk := by
  unfold State.runSetRelay
  split
  · exact s.afterCheck_trunk r fun _ => State.answer_trunk _ r _ _ _
  · rfl

theorem State.setGate_trunk (gate : Gate) : (s.setGate r gate).trunk = s.trunk := State.answer_trunk _ r _ _ _

theorem State.runFlushRelay_trunk : (s.runFlushRelay r).trunk = s.trunk := State.answer_trunk _ r _ _ _

theorem State.runSend_trunk {s t : State} {r : Request} : s.runSend r = .next t → t.trunk = s.trunk := by
  have hnext {u : State} (hu : u.trunk = s.trunk) := of_next (P := fun t => t.trunk = s.trunk) (t := t) hu
  unfold State.runSend
  split
  · split
    · exact hnext (s.refuse_trunk r _ _)
    · unfold State.sendFrame
      split
      · exact nofun
      · exact hnext (State.answer_trunk _ r _ _ _)
  · exact hnext rfl

theorem State.runCancel_trunk : (s.runCancel r).trunk = s.trunk := by
  unfold State.runCancel
  split
  · refine s.afterCheck_trunk r fun e => ?_
    unfold State.cancelEntry
    split <;> simp
  · rfl

theorem State.runSetTrunk_trunk : (s.runSetTrunk r).trunk = s.trunk := by
  unfold State.runSetTrunk
  split
  · exact s.afterCheck_trunk r fun _ => State.answer_trunk _ r _ _ _
  · rfl

theorem State.runGrant_trunk : (s.runGrant r).trunk = s.trunk := by
  unfold State.runGrant
  split
  · exact s.afterCheck_trunk r fun _ => State.answer_trunk _ r _ _ _
  · rfl

theorem State.runAck_trunk : (s.runAck r).trunk = s.trunk := by
  unfold State.runAck
  split
  · exact s.afterCheck_trunk r fun _ => State.answer_trunk _ r _ _ _
  · rfl

theorem State.runResend_trunk : (s.runResend r).trunk = s.trunk := State.answer_trunk _ r _ _ _

theorem State.runDiscardCaptures_trunk : (s.runDiscardCaptures r).trunk = s.trunk := State.answer_trunk _ r _ _ _

end

/-! ## Commands -/

/-- A condition decides between a state and the present one. -/
theorem trunk_ite {s u : State} {p : Prop} [Decidable p] (h : u.trunk = s.trunk) : (if p then u else s).trunk = s.trunk := by
  split
  · exact h
  · rfl

/-- A command that names no event, or an event that leaves the trunk port. -/
theorem trunk_ite_not {s u : State} {p : Prop} [Decidable p] (h : u.trunk = s.trunk) :
    (if p then s else u).trunk = s.trunk := by
  split
  · rfl
  · exact h

theorem exec_tapEndOfFrame_trunk {s t : State} {k : TapNo} {bits : List Level} :
    exec (.tapEndOfFrame k bits) s = .next t → t.trunk = s.trunk := by
  refine of_next (P := fun t => t.trunk = s.trunk) ?_
  split
  · split
    · rw [State.listenFrameEnd_trunk, State.endFrame_trunk]
    · rw [State.closingFrameEnd_trunk, State.endFrame_trunk]
    · rfl
    · rfl
  · rfl

theorem exec_outboundChoice_trunk {s t : State} : exec .outboundChoice s = .next t → t.trunk = s.trunk := by
  refine of_next (P := fun t => t.trunk = s.trunk) (trunk_ite ?_)
  split
  · rfl
  · exact trunk_ite s.startNotice_trunk

theorem exec_txDoneCompleted_trunk {s t : State} : exec .txDoneCompleted s = .next t → t.trunk = s.trunk := by
  refine of_next (P := fun t => t.trunk = s.trunk) (trunk_ite ?_)
  split <;> rfl

theorem exec_send_trunk {s t : State} : exec .send s = .next t → t.trunk = s.trunk := by
  rcases s.takeRequest_cases (some .send) with hnone | ⟨r, rest, -, -, htake⟩
  · simp only [exec, execSend, hnone]
    exact of_next (P := fun t => t.trunk = s.trunk) rfl
  · simp only [exec, execSend, htake]
    exact State.runSend_trunk

/-- A command that is not named by `Instr.writesTrunk` leaves the trunk port as it is. -/
theorem exec_trunk {c : Instr} (hc : Instr.writesTrunk c = false) {s t : State} : exec c s = .next t → t.trunk = s.trunk := by
  have hnext {u : State} (hu : u.trunk = s.trunk) :
      (Host.Outcome.next u : Host.Outcome State Fault Refusal) = .next t → t.trunk = s.trunk :=
    of_next (P := fun t => t.trunk = s.trunk) hu
  have hserve {code : Option RequestCode} {act : Request → State → State}
      (hact : ∀ (r : Request) (u : State), (act r u).trunk = u.trunk) :
      (Host.Outcome.next (s.serve code act) : Host.Outcome State Fault Refusal) = .next t → t.trunk = s.trunk :=
    hnext (s.serve_trunk hact)
  cases c with
  | powerReset | replyCompleted | trunkStartOfFrame | trunkEndOfFrame | trunkJoinIdleGap | trunkReceiverResync
  | transmitOpportunity | outcomeSent | outcomeLost | outcomeFault | stop | attach | detach | resume => nomatch hc
  | memoryCheckCompleted correct => exact hnext (trunk_ite rfl)
  | tapStartOfFrame k => exact hnext (trunk_ite (s.allocate_trunk _ _))
  | tapEndOfFrame k bits => exact exec_tapEndOfFrame_trunk
  | tapIdleGap k => exact hnext (trunk_ite rfl)
  | tapResynchronised k => exact hnext (trunk_ite rfl)
  | framingError => exact hnext (trunk_ite_not (s.takeHunt_trunk _))
  | badLength len => exact hnext (trunk_ite (s.takeHunt_trunk _))
  | gapExpiry => exact hnext (trunk_ite_not (s.takeHunt_trunk _))
  | messageReceived low => exact hnext (trunk_ite (s.takeHunt_trunk _))
  | byteReceived byte => exact hnext (trunk_ite_not (s.takeHunt_trunk _))
  | lineBreak => exact hnext (trunk_ite_not (by dsimp only; split <;> rfl))
  | outboundChoice => exact exec_outboundChoice_trunk
  | captureCompleted => exact hnext (trunk_ite rfl)
  | txDoneCompleted => exact exec_txDoneCompleted_trunk
  | eventCompleted => exact hnext (trunk_ite rfl)
  | badRequest => exact hserve fun r u => u.refuse_trunk r _ _
  | hello => exact hserve fun r u => u.runHello_trunk r
  | status => exact hserve fun r u => u.runStatus_trunk r
  | start => exact hserve fun r u => u.runStart_trunk r
  | reset => exact hserve fun r u => u.runReset_trunk r
  | setTap => exact hserve fun r u => u.runSetTap_trunk r
  | openTap => exact hserve fun r u => u.runOpenTap_trunk r
  | closeTap => exact hserve fun r u => u.runCloseTap_trunk r
  | setQuota => exact hserve fun r u => u.runSetQuota_trunk r
  | setWindow => exact hserve fun r u => u.runSetWindow_trunk r
  | setDefault => exact hserve fun r u => u.runSetDefault_trunk r
  | readWindow => exact hserve fun r u => u.runReadWindow_trunk r
  | commit => exact hserve fun r u => u.runCommit_trunk r
  | discardStaged => exact hserve fun r u => u.runDiscardStaged_trunk r
  | setRelay => exact hserve fun r u => u.runSetRelay_trunk r
  | holdRelay => exact hserve fun r u => u.setGate_trunk r _
  | releaseRelay => exact hserve fun r u => u.setGate_trunk r _
  | flushRelay => exact hserve fun r u => u.runFlushRelay_trunk r
  | send => exact exec_send_trunk
  | cancel => exact hserve fun r u => u.runCancel_trunk r
  | setTrunk => exact hserve fun r u => u.runSetTrunk_trunk r
  | grant => exact hserve fun r u => u.runGrant_trunk r
  | ack => exact hserve fun r u => u.runAck_trunk r
  | resend => exact hserve fun r u => u.runResend_trunk r
  | discardCaptures => exact hserve fun r u => u.runDiscardCaptures_trunk r

end Sys2Proof.Machine
end

section
/-! SUPPORT. What each command that writes the trunk port keeps of its fitting the health history (R119, R120, R121). -/

namespace Sys2Proof.Machine

theorem State.completeDetach_trunk (s : State) : s.completeDetach.trunk = s.trunk.detached := by
  cases hparked : s.trunk.parkedDetach with
  | false => rw [State.completeDetach_unparked hparked, State.reportTrunk_trunk]; rfl
  | true => rw [State.completeDetach_parked hparked, State.reportTrunk_trunk, State.answerParked_trunk]; rfl

theorem State.beginStop_trunk (s : State) (r : Request) :
    (s.beginStop r).trunk = (allTaps.foldl State.closeForStop (s.stopBegun r)).detachForStop.trunk := by
  rw [State.beginStop_eq, State.allClosed]

namespace State.HealthJudged

variable {s t u : State}

/-! ## Operations -/

theorem ite {p : Prop} [Decidable p] (hu : p → u.HealthJudged) (h : s.HealthJudged) :
    (if p then u else s).HealthJudged := by
  split
  · next hp => exact hu hp
  · exact h

/-- In DETACHED and JOINING, with an empty history and no attempt in flight. -/
theorem of_quiet (hflight : t.trunk.inFlight = none) (hhistory : t.trunk.history = [])
    (hstate : t.trunk.state = .detached ∨ t.trunk.state = .joining) : t.HealthJudged := by
  rcases hstate with hs | hs <;> simp [State.HealthJudged, hflight, hhistory, hs]

/-- An attempt is in flight only where the port transmits (R119). -/
theorem inFlight_none (h : s.HealthJudged) (hs : s.trunk.state.transmitting = false) : s.trunk.inFlight = none := by
  obtain ⟨-, htransmitting, -⟩ := h
  refine Option.not_isSome_iff_eq_none.mp fun hf => ?_
  simp [hs] at htransmitting
  simp [htransmitting] at hf

/-- A pending detach completes only with no attempt in flight (R124). -/
theorem detachIfIdle (h : s.HealthJudged) : s.detachIfIdle.HealthJudged := by
  refine ite (fun ⟨_, hflight, _⟩ => ?_) h
  have htrunk := s.completeDetach_trunk
  exact of_quiet (by rw [htrunk]; exact hflight) (by rw [htrunk]; rfl) (by rw [htrunk]; exact .inl rfl)

theorem trunkFrameStart (h : s.HealthJudged) (stamp : Word32) : (s.trunkFrameStart stamp).HealthJudged :=
  (h.congr (s.allocate_trunk trunkIngress stamp)).same rfl rfl id

theorem followWinner (h : s.HealthJudged) : s.followWinner.HealthJudged :=
  ite (fun _ => h.trunkFrameStart _) h

/-- The attempt in flight ends with an outcome that is recorded, in ACTIVE or DEGRADED (R94, R120, R121). -/
theorem outcomeRecorded (h : s.HealthJudged) {c : Candidate} (hc : s.trunk.inFlight = some c) (hu : u.trunk = s.trunk)
    (m : HealthMark) : (u.endAttempt.recordOutcome m).HealthJudged := by
  have hstate : s.trunk.state = .active ∨ s.trunk.state = .degraded := by
    obtain ⟨-, htransmitting, -⟩ := h
    simpa [TrunkState.transmitting_eq] using htransmitting (by rw [hc]; rfl)
  refine (h.judged hstate m).1.congr ?_
  rw [← hu]
  rfl

/-! ## The resets and the events on the line -/

theorem replyCompleted (h : s.HealthJudged) (br1 br0 : Bool) :
    Machine.exec (.replyCompleted br1 br0) s = .next t → t.HealthJudged := by
  refine of_next (ite (fun _ => ?_) h)
  split
  · split
    · exact of_quiet rfl rfl (.inl rfl)
    · exact h
  · exact h

theorem trunkEndOfFrame (h : s.HealthJudged) (bits : List Level) :
    Machine.exec (.trunkEndOfFrame bits) s = .next t → t.HealthJudged := by
  refine of_next ?_
  split
  · next p verdict _ _ =>
    have hended : (s.endFrame trunkIngress p verdict).HealthJudged := h.congr (s.endFrame_trunk _ _ _)
    exact detachIfIdle (hended.same rfl rfl id)
  · exact h

/-- JOINING has an empty history, so ACTIVE begins with f 0 (R113). -/
theorem trunkJoinIdleGap (h : s.HealthJudged) : Machine.exec .trunkJoinIdleGap s = .next t → t.HealthJudged := by
  refine of_next (ite (fun ⟨hjoining, _⟩ => ?_) h)
  have hflight := h.inFlight_none (by rw [hjoining]; rfl)
  obtain ⟨-, -, hempty, -⟩ := h
  simp [State.HealthJudged, Trunk.faults, hflight, hempty (.inr hjoining)]

theorem trunkReceiverResync (h : s.HealthJudged) : Machine.exec .trunkReceiverResync s = .next t → t.HealthJudged :=
  of_next (ite (fun _ => h.same rfl rfl id) h)

/-- An attempt starts only in ACTIVE and DEGRADED (R91). -/
theorem transmitOpportunity (h : s.HealthJudged) : Machine.exec .transmitOpportunity s = .next t → t.HealthJudged := by
  refine of_next (ite (fun hmay => ?_) h)
  split
  · obtain ⟨hstate, -⟩ := s.mayTransmit_iff.mp hmay
    obtain ⟨hlength, -, hrest⟩ := h
    have htransmitting : s.trunk.state.transmitting = true := by simpa [TrunkState.transmitting_eq] using hstate
    exact ⟨hlength, fun _ => htransmitting, hrest⟩
  · exact h

theorem outcomeSent (h : s.HealthJudged) (read : List Level) :
    Machine.exec (.outcomeSent read) s = .next t → t.HealthJudged := by
  refine of_next ?_
  split
  · exact h
  · next c hc => exact ite (fun _ => (h.outcomeRecorded hc (s.applySent_trunk c) .sent).detachIfIdle) h

theorem outcomeFault (h : s.HealthJudged) (read : List Level) :
    Machine.exec (.outcomeFault read) s = .next t → t.HealthJudged := by
  refine of_next ?_
  split
  · exact h
  · next c hc => exact ite (fun _ => (h.outcomeRecorded hc (s.applyFault_trunk c) .fault).detachIfIdle) h

/-- A LOST outcome is recorded nowhere (R120). -/
theorem outcomeLost (h : s.HealthJudged) (read : List Level) :
    Machine.exec (.outcomeLost read) s = .next t → t.HealthJudged := by
  refine of_next ?_
  split
  · exact h
  · next c hc =>
    have happlied : (s.applyLost c).HealthJudged := h.congr (s.applyLost_trunk c)
    exact ite (fun _ => (happlied.same (t := (s.applyLost c).endAttempt) rfl rfl nofun).followWinner.detachIfIdle) h

/-! ## Requests -/

theorem serve (h : s.HealthJudged) {code : Option RequestCode} {act : Request → State → State}
    (hact : ∀ (r : Request) (u : State), u.HealthJudged → (act r u).HealthJudged) : (s.serve code act).HealthJudged :=
  State.serve_cases h fun r rest _ _ => hact r (s.taken rest) h

theorem answer (h : s.HealthJudged) (r : Request) (x : Status) (d : Byte) (result : List Byte) :
    (s.answer r x d result).HealthJudged :=
  h.congr (s.answer_trunk r x d result)

theorem afterCheck {α : Type} {check : Except Refused α} {go : α → State} (h : s.HealthJudged) (r : Request)
    (hgo : ∀ a, check = .ok a → (go a).HealthJudged) : (s.afterCheck r check go).HealthJudged := by
  unfold State.afterCheck
  split
  · exact h.congr (s.refuse_trunk r _ _)
  · exact hgo _ rfl

/-- STOP closes the taps, then asks the port to detach (R125, R186). -/
theorem runStop (h : s.HealthJudged) (r : Request) : (s.runStop r).HealthJudged := by
  have hdetaches {u : State} (hu : u.HealthJudged) : u.detachForStop.HealthJudged := by
    unfold State.detachForStop
    split
    · exact hu.congr u.reportTrunk_trunk
    · exact detachIfIdle (hu.same rfl rfl id)
  have hclosed : (allTaps.foldl State.closeForStop (s.stopBegun r)).HealthJudged :=
    h.congr (State.foldl_closeForStop_trunk _ _)
  unfold State.runStop
  split
  · exact (hdetaches hclosed).congr (s.beginStop_trunk r)
  · exact h.congr (s.refuse_trunk r _ _)
  · exact h.answer r _ _ _
  · exact h.answer r _ _ _

/-- DETACHED goes to JOINING with an empty history (R112). -/
theorem runAttach (h : s.HealthJudged) (r : Request) : (s.runAttach r).HealthJudged := by
  refine h.afterCheck r fun _ hc => answer ?_ r _ _ _
  obtain ⟨-, hdetached⟩ := State.checkAttach_ok hc
  exact of_quiet (h.not_inFlight hdetached) rfl (.inr rfl)

/-- SUSPENDED, where nothing is transmitted, goes to JOINING with an empty history (R122). -/
theorem runResume (h : s.HealthJudged) (r : Request) : (s.runResume r).HealthJudged := by
  refine h.afterCheck r fun _ hc => answer ?_ r _ _ _
  obtain ⟨-, hsuspended⟩ := State.checkResume_ok hc
  exact of_quiet (h.inFlight_none (by rw [hsuspended]; rfl)) rfl (.inr rfl)

theorem runDetach (h : s.HealthJudged) (r : Request) : (s.runDetach r).HealthJudged := by
  unfold State.runDetach
  split
  · exact h.answer r _ _ _
  split
  · exact detachIfIdle (h.same rfl rfl id)
  split
  · exact h.congr (s.refuse_trunk r _ _)
  · exact h.same rfl rfl id

/-! ## Every command -/

/-- Every command keeps the port's state fitting its health history. -/
theorem exec (h : s.HealthJudged) {c : Instr} (hexec : Machine.exec c s = .next t) : t.HealthJudged := by
  cases hc : Instr.writesTrunk c with
  | false => exact h.congr (exec_trunk hc hexec)
  | true =>
    cases c with
    | powerReset br1 br0 => exact of_next (of_quiet rfl rfl (.inl rfl)) hexec
    | replyCompleted br1 br0 => exact h.replyCompleted br1 br0 hexec
    | trunkStartOfFrame => exact of_next (ite (fun _ => h.trunkFrameStart _) h) hexec
    | trunkEndOfFrame bits => exact h.trunkEndOfFrame bits hexec
    | trunkJoinIdleGap => exact h.trunkJoinIdleGap hexec
    | trunkReceiverResync => exact h.trunkReceiverResync hexec
    | transmitOpportunity => exact h.transmitOpportunity hexec
    | outcomeSent read => exact h.outcomeSent read hexec
    | outcomeLost read => exact h.outcomeLost read hexec
    | outcomeFault read => exact h.outcomeFault read hexec
    | stop => exact of_next (h.serve fun r _ hu => hu.runStop r) hexec
    | attach => exact of_next (h.serve fun r _ hu => hu.runAttach r) hexec
    | detach => exact of_next (h.serve fun r _ hu => hu.runDetach r) hexec
    | resume => exact of_next (h.serve fun r _ hu => hu.runResume r) hexec
    | _ => nomatch hc

end State.HealthJudged

/-- Settles O10: a microsecond leaves the trunk port, and every command keeps the law (`State.HealthJudged.exec`). -/
theorem stepKeepsHealthJudged : Obligations.StepKeepsHealthJudged := by
  intro s t h hstep
  cases hp : s.pending with
  | nil =>
    rw [step_empty hp] at hstep
    exact of_next (u := s.tick) h hstep
  | cons c rest =>
    rw [step, hp] at hstep
    exact State.HealthJudged.exec (s := { s with pending := rest }) h hstep

end Sys2Proof.Machine
end

section
/-! SUPPORT. The receive hunter: what each of its states makes of a byte, a run of bytes at the part, and the depth of the
re-examination, which the kept bytes never use up (R135, R136, R138). -/

namespace Sys2Proof.Machine

theorem stopSucc_word16 (x : Word16) : stopSucc x = if x = 65535 then 65535 else x + 1 := by
  unfold stopSucc
  split <;> simp_all

/-! ## A byte in each state of the hunter -/

/-- The re-examination that `HunterRun.examine` carries out at a depth (R138). -/
def HunterRun.rehunt : Nat → List Byte → HunterRun → HunterRun
  | 0, _, r => r
  | depth + 1, bytes, r => bytes.foldl (HunterRun.examine depth) r

theorem HunterRun.examine_eq (depth : Nat) (r : HunterRun) (b : Byte) :
    r.examine depth b = r.examineWith (HunterRun.rehunt depth) b := by
  cases depth <;> rfl

section
variable {r : HunterRun} (depth : Nat) {b : Byte}

theorem HunterRun.examine_sync (h : r.hunter.phase = .hunt) (hb : b = syncByte) :
    r.examine depth b = { r with hunter := ⟨.length, [b], 0, none⟩ } := by
  simp [examine_eq, examineWith, h, hb]

theorem HunterRun.examine_noise (h : r.hunter.phase = .hunt) (hb : b ≠ syncByte) : r.examine depth b = r := by
  simp [examine_eq, examineWith, h, hb]

theorem HunterRun.examine_len (h : r.hunter.phase = .length) (hb : badLen b = false) :
    r.examine depth b = { r with hunter := ⟨.collect, r.hunter.kept ++ [b], b.toNat, none⟩ } := by
  simp [examine_eq, examineWith, h, hb]

theorem HunterRun.examine_badLen (h : r.hunter.phase = .length) (hb : badLen b = true) :
    r.examine depth b = r.discard := by
  simp [examine_eq, examineWith, h, hb]

theorem HunterRun.examine_collect (h : r.hunter.phase = .collect) (hn : 2 ≤ r.hunter.toCollect) :
    r.examine depth b = { r with hunter := ⟨.collect, r.hunter.kept ++ [b], r.hunter.toCollect - 1, none⟩ } := by
  simp [examine_eq, examineWith, h, Nat.not_le.mpr hn]

theorem HunterRun.examine_collected (h : r.hunter.phase = .collect) (hn : r.hunter.toCollect = 1) :
    r.examine depth b = { r with hunter := ⟨.check, r.hunter.kept ++ [b], 0, none⟩ } := by
  simp [examine_eq, examineWith, h, hn]

theorem HunterRun.examine_checkHigh (h : r.hunter.phase = .check) (hnone : r.hunter.checkHigh = none) :
    r.examine depth b = { r with hunter := ⟨.check, r.hunter.kept ++ [b], r.hunter.toCollect, some b⟩ } := by
  simp [examine_eq, examineWith, h, hnone]

theorem HunterRun.examine_checkLow {high : Byte} (h : r.hunter.phase = .check) (hsome : r.hunter.checkHigh = some high) :
    r.examine depth b = r.judge (HunterRun.rehunt depth) high b := by
  simp [examine_eq, examineWith, h, hsome]

end

theorem badLen_eq_false {b : Byte} (h1 : 2 ≤ b.toNat) (h2 : b.toNat ≤ 250) : badLen b = false := by
  simpa [badLen] using ⟨h1, h2⟩

theorem badLen_eq_true {b : Byte} (h : b.toNat < 2 ∨ 250 < b.toNat) : badLen b = true := by
  simpa [badLen] using h

/-! ## A byte at the part -/

theorem State.takeHunt_one (s : State) (hunter : Hunter) (linkErrors : Word16) (q : Request) :
    s.takeHunt ⟨hunter, linkErrors, [q]⟩ =
      State.arrive { s with line := { s.line with hunter := hunter, linkErrors := linkErrors } } q := rfl

/-- A discard at the part, with its count as the statements write it (R140). -/
theorem State.takeHunt_discard (s : State) :
    s.takeHunt s.hunt.discard =
      { s with line := { s.line with
          hunter := ⟨.hunt, [], 0, none⟩
          linkErrors := if s.line.linkErrors = 65535 then 65535 else s.line.linkErrors + 1 } } := by
  rw [← stopSucc_word16]
  rfl

theorem exec_byteReceived {s : State} (hs : s.part ≠ .booting) (b : Byte) :
    exec (.byteReceived b) s = .next (s.takeHunt (s.hunt.examine rehuntDepth b)) := by
  rw [exec, execByteReceived, if_neg hs]

theorem exec_badLength {s : State} {b : Byte} (hs : s.part ≠ .booting) (h : s.line.hunter.phase = .length)
    (hb : badLen b = true) : exec (.badLength b) s = .next (s.takeHunt s.hunt.discard) := by
  rw [exec, execBadLength, if_pos ⟨hs, h, hb⟩, State.discardMessage]

theorem exec_framingError {s : State} (hs : s.part ≠ .booting) :
    exec .framingError s =
      .next (if s.line.hunter.phase = .hunt then s else s.takeHunt s.hunt.discard) := by
  simp only [exec, execFramingError, hs, false_or, State.discardMessage]

/-- A gap that expires does what a framing error does (R132, R137). -/
theorem exec_gapExpiry (s : State) : exec .gapExpiry s = exec .framingError s := rfl

/-- Settles O40, state by state of the hunter, and each discard by `State.takeHunt_discard`. -/
theorem hunterTakesBytes : Obligations.HunterTakesBytes := by
  intro s b hs h now errors discarded
  have hbyte (t : HunterRun) (he : s.hunt.examine rehuntDepth b = t) :
      exec (.byteReceived b) s = .next (s.takeHunt t) := he ▸ exec_byteReceived hs b
  have hdiscard : s.takeHunt s.hunt.discard = discarded := s.takeHunt_discard
  refine ⟨fun hp hb => ?_, fun hp hb => ?_, fun hp h1 h2 => ?_, fun hp hb => ⟨?_, ?_⟩, fun hp hn => ?_, fun hp hn => ?_,
    fun hp hnone => ?_, fun hp => ?_, fun hp => ?_⟩
  · exact hbyte _ (HunterRun.examine_sync _ hp hb)
  · exact hbyte _ (HunterRun.examine_noise _ hp hb)
  · exact hbyte _ (HunterRun.examine_len _ hp (badLen_eq_false h1 h2))
  · rw [hbyte _ (HunterRun.examine_badLen _ hp (badLen_eq_true hb)), hdiscard]
  · rw [exec_badLength hs hp (badLen_eq_true hb), hdiscard]
  · exact hbyte _ (HunterRun.examine_collect _ hp hn)
  · exact hbyte _ (HunterRun.examine_collected _ hp hn)
  · exact hbyte _ (HunterRun.examine_checkHigh _ hp hnone)
  · rw [exec_gapExpiry, exec_framingError hs, if_neg hp, hdiscard]
    exact ⟨rfl, rfl⟩
  · rw [exec_gapExpiry, exec_framingError hs, if_pos hp]
    exact ⟨rfl, rfl⟩

/-! ## A run of bytes at the part -/

/-- The same work behind requests accepted earlier. -/
def HunterRun.behind (r : HunterRun) (earlier : List Request) : HunterRun :=
  { r with accepted := earlier ++ r.accepted }

@[simp] theorem HunterRun.behind_hunter (r : HunterRun) (earlier : List Request) :
    (r.behind earlier).hunter = r.hunter := rfl

theorem HunterRun.judge_behind {rehunt : List Byte → HunterRun → HunterRun} {earlier : List Request}
    (hrehunt : ∀ bytes r, rehunt bytes (r.behind earlier) = (rehunt bytes r).behind earlier) (high low : Byte)
    (r : HunterRun) : (r.behind earlier).judge rehunt high low = (r.judge rehunt high low).behind earlier := by
  unfold judge
  by_cases hcheck : messageCheck (r.hunter.kept.drop 1).dropLast = word16Of high low
  · simp only [behind_hunter, hcheck, ne_eq, not_true_eq_false, if_false]
    split
    · split <;> simp [behind, discard]
    · rfl
  · simp only [behind_hunter, ne_eq, hcheck, not_false_eq_true, if_true]
    exact hrehunt _ r.discard

/-- The requests accepted so far have no part in what the hunter makes of a byte. -/
theorem HunterRun.examineWith_behind {rehunt : List Byte → HunterRun → HunterRun} {earlier : List Request}
    (hrehunt : ∀ bytes r, rehunt bytes (r.behind earlier) = (rehunt bytes r).behind earlier) (r : HunterRun) (b : Byte) :
    (r.behind earlier).examineWith rehunt b = (r.examineWith rehunt b).behind earlier := by
  unfold examineWith
  rw [behind_hunter]
  split
  · split <;> rfl
  · split <;> rfl
  · rfl
  · split
    · rfl
    · exact judge_behind hrehunt _ _ r

theorem HunterRun.foldl_behind {f : HunterRun → Byte → HunterRun} {earlier : List Request}
    (hf : ∀ r b, f (r.behind earlier) b = (f r b).behind earlier) (bytes : List Byte) (r : HunterRun) :
    bytes.foldl f (r.behind earlier) = (bytes.foldl f r).behind earlier := by
  induction bytes generalizing r with
  | nil => rfl
  | cons b bytes ih => rw [List.foldl_cons, List.foldl_cons, hf, ih]

theorem HunterRun.examine_behind (depth : Nat) (r : HunterRun) (earlier : List Request) (b : Byte) :
    (r.behind earlier).examine depth b = (r.examine depth b).behind earlier := by
  induction depth generalizing r b with
  | zero => exact examineWith_behind (fun _ _ => rfl) r b
  | succ depth ih => exact examineWith_behind (foldl_behind ih) r b

/-- An arrival neither reads nor writes the hunter and the link error count. -/
theorem State.arrive_hunted (s : State) (hunter : Hunter) (linkErrors : Word16) (q : Request) :
    State.arrive { s with line := { s.line with hunter := hunter, linkErrors := linkErrors } } q =
      { s.arrive q with line := { (s.arrive q).line with hunter := hunter, linkErrors := linkErrors } } := by
  unfold State.arrive State.replyAtArrival
  dsimp only
  repeat' split
  all_goals rfl

theorem State.foldl_arrive_hunted (qs : List Request) (s : State) (hunter : Hunter) (linkErrors : Word16) :
    qs.foldl State.arrive { s with line := { s.line with hunter := hunter, linkErrors := linkErrors } } =
      { qs.foldl State.arrive s with
        line := { (qs.foldl State.arrive s).line with hunter := hunter, linkErrors := linkErrors } } := by
  induction qs generalizing s with
  | nil => rfl
  | cons q qs ih => rw [List.foldl_cons, List.foldl_cons, State.arrive_hunted, ih]

/-- The part takes over a run of the hunter: its requests arrive, and its hunter and link error count stand. -/
theorem State.takeHunt_eq (s : State) (r : HunterRun) :
    s.takeHunt r =
      { r.accepted.foldl State.arrive s with
        line := { (r.accepted.foldl State.arrive s).line with hunter := r.hunter, linkErrors := r.linkErrors } } :=
  State.foldl_arrive_hunted _ s _ _

theorem State.hunt_takeHunt (s : State) (r : HunterRun) : (s.takeHunt r).hunt = ⟨r.hunter, r.linkErrors, []⟩ := by
  rw [State.takeHunt_eq, State.hunt]

/-- Two pieces of work taken over one after the other are one piece of work. -/
theorem State.takeHunt_takeHunt (s : State) (r r' : HunterRun) :
    (s.takeHunt r).takeHunt r' = s.takeHunt (r'.behind r.accepted) := by
  rw [State.takeHunt_eq (s.takeHunt r), State.takeHunt_eq s r, State.foldl_arrive_hunted, ← List.foldl_append,
    State.takeHunt_eq, HunterRun.behind]

/-- The bytes given, examined one after another. -/
def HunterRun.examineAll (r : HunterRun) (bytes : List Byte) : HunterRun :=
  bytes.foldl (HunterRun.examine rehuntDepth) r

theorem HunterRun.examineAll_cons (r : HunterRun) (b : Byte) (bytes : List Byte) :
    r.examineAll (b :: bytes) = (r.examine rehuntDepth b).examineAll bytes := rfl

theorem HunterRun.examineAll_append (r : HunterRun) (bytes more : List Byte) :
    r.examineAll (bytes ++ more) = (r.examineAll bytes).examineAll more := List.foldl_append

theorem HunterRun.examineAll_behind (r : HunterRun) (earlier : List Request) (bytes : List Byte) :
    (r.behind earlier).examineAll bytes = (r.examineAll bytes).behind earlier :=
  HunterRun.foldl_behind (fun r b => r.examine_behind _ _ b) bytes r

/-- Bytes that arrive one by one do to the part what the hunter makes of them in one run (R135, R136). -/
theorem State.runAll_byteReceived {s : State} (hs : s.part ≠ .booting) (bytes : List Byte) :
    s.runAll (bytes.map .byteReceived) = .next (s.takeHunt (s.hunt.examineAll bytes)) := by
  induction bytes generalizing s with
  | nil => rfl
  | cons b bytes ih =>
    let first := s.hunt.examine rehuntDepth b
    have hpart : (s.takeHunt first).part ≠ .booting := by rwa [State.takeHunt_part]
    have hfirst : (⟨first.hunter, first.linkErrors, []⟩ : HunterRun).behind first.accepted = first := by
      simp [HunterRun.behind]
    calc s.runAll ((b :: bytes).map .byteReceived)
        = (s.takeHunt first).runAll (bytes.map .byteReceived) := by
          rw [List.map_cons, State.runAll, exec_byteReceived hs]
      _ = .next ((s.takeHunt first).takeHunt ((s.takeHunt first).hunt.examineAll bytes)) := ih hpart
      _ = .next (s.takeHunt (s.hunt.examineAll (b :: bytes))) := by
          rw [State.takeHunt_takeHunt, State.hunt_takeHunt, ← HunterRun.examineAll_behind, hfirst,
            HunterRun.examineAll_cons]

/-! ## The depth of the re-examination -/

/-- The hunter keeps `n` bytes at most, and one at least once it has left HUNT (R135). -/
structure Hunter.Within (h : Hunter) (n : Nat) : Prop where
  bounded : h.kept.length ≤ n
  started : h.phase ≠ .hunt → h.kept ≠ []

theorem Hunter.initial_within (n : Nat) : Hunter.initial.Within n := ⟨Nat.zero_le n, fun h => absurd rfl h⟩

theorem Hunter.Within.kept_pos {h : Hunter} {n : Nat} (hn : h.Within n) (hphase : h.phase ≠ .hunt) : 0 < h.kept.length :=
  List.length_pos_iff.mpr (hn.started hphase)

theorem Hunter.Within.mono {h : Hunter} {n m : Nat} (hn : h.Within n) (hm : n ≤ m) : h.Within m :=
  ⟨hn.bounded.trans hm, hn.started⟩

/-- What a byte can make of the hunter. -/
theorem HunterRun.examineWith_hunter_cases (rehunt : List Byte → HunterRun → HunterRun) (r : HunterRun) (b : Byte) :
    (r.examineWith rehunt b).hunter = r.hunter ∨ (r.examineWith rehunt b).hunter = .initial ∨
      (r.examineWith rehunt b).hunter.kept = [b] ∨ (r.examineWith rehunt b).hunter.kept = r.hunter.kept ++ [b] ∨
      (r.examineWith rehunt b).hunter = (rehunt (r.hunter.kept.drop 1 ++ [b]) r.discard).hunter := by
  unfold examineWith
  split
  · split <;> simp
  · split <;> simp [discard]
  · simp
  · split
    · simp
    · unfold judge
      dsimp only
      split
      · simp
      · split
        · split <;> simp [discard]
        · simp [discard]

/-- A byte lengthens what the hunter keeps by one at most, if the re-examination keeps no more bytes than it is given. -/
theorem HunterRun.examineWith_within {rehunt : List Byte → HunterRun → HunterRun}
    (hrehunt : ∀ bytes r n, r.hunter.Within n → (rehunt bytes r).hunter.Within (n + bytes.length)) {r : HunterRun} {n : Nat}
    (hr : r.hunter.Within n) (b : Byte) : (r.examineWith rehunt b).hunter.Within (n + 1) := by
  have hbounded := hr.bounded
  rcases r.examineWith_hunter_cases rehunt b with h | h | h | h | h
  · exact h ▸ hr.mono (Nat.le_succ n)
  · exact h ▸ Hunter.initial_within _
  · exact ⟨by simp [h], by simp [h]⟩
  · exact ⟨by simpa [h] using hbounded, by simp [h]⟩
  · rw [h]
    refine (hrehunt _ r.discard 0 (Hunter.initial_within 0)).mono ?_
    simp only [List.length_append, List.length_drop, List.length_singleton]
    omega

theorem HunterRun.foldl_within {f : HunterRun → Byte → HunterRun}
    (hf : ∀ (r : HunterRun) (n : Nat) (b : Byte), r.hunter.Within n → (f r b).hunter.Within (n + 1)) (bytes : List Byte)
    (r : HunterRun) (n : Nat) (hr : r.hunter.Within n) : (bytes.foldl f r).hunter.Within (n + bytes.length) := by
  induction bytes generalizing r n with
  | nil => exact hr
  | cons b bytes ih =>
    rw [List.foldl_cons, List.length_cons, Nat.add_comm bytes.length, ← Nat.add_assoc]
    exact ih (f r b) (n + 1) (hf r n b hr)

theorem HunterRun.examine_within (depth : Nat) (r : HunterRun) (n : Nat) (b : Byte) (hr : r.hunter.Within n) :
    (r.examine depth b).hunter.Within (n + 1) := by
  induction depth generalizing r n b with
  | zero => exact examineWith_within (fun _ _ _ h => h.mono (Nat.le_add_right _ _)) hr b
  | succ depth ih => exact examineWith_within (foldl_within ih) hr b

/-- Only a judgement looks at the re-examination, and only for a message of which bytes are kept. -/
theorem HunterRun.examineWith_congr {rehunt rehunt' : List Byte → HunterRun → HunterRun} {r : HunterRun} (b : Byte)
    (h : r.hunter.phase ≠ .hunt →
      rehunt (r.hunter.kept.drop 1 ++ [b]) r.discard = rehunt' (r.hunter.kept.drop 1 ++ [b]) r.discard) :
    r.examineWith rehunt b = r.examineWith rehunt' b := by
  unfold examineWith
  split
  · rfl
  · rfl
  · rfl
  · next hphase => simp only [judge, h (by simp [hphase])]

/-- Two depths that both cover the bytes kept give the same: a message found among kept bytes keeps fewer bytes than the one
discarded (R138; log entry 29). -/
theorem HunterRun.foldl_examine_congr {d d' : Nat}
    (hexamine : ∀ (r : HunterRun) (b : Byte), r.hunter.Within d → r.hunter.Within d' → r.examine d b = r.examine d' b)
    (bytes : List Byte) {r : HunterRun} {n : Nat} (hr : r.hunter.Within n) (hd : n + bytes.length ≤ d + 1)
    (hd' : n + bytes.length ≤ d' + 1) :
    bytes.foldl (HunterRun.examine d) r = bytes.foldl (HunterRun.examine d') r := by
  induction bytes generalizing r n with
  | nil => rfl
  | cons b bytes ih =>
    rw [List.length_cons] at hd hd'
    rw [List.foldl_cons, List.foldl_cons, hexamine r b (hr.mono (by omega)) (hr.mono (by omega))]
    exact ih (examine_within d' r n b hr) (by omega) (by omega)

theorem HunterRun.examine_depth_congr {d d' : Nat} {r : HunterRun} (b : Byte) (hr : r.hunter.Within d)
    (hr' : r.hunter.Within d') : r.examine d b = r.examine d' b := by
  induction d generalizing d' r b with
  | zero =>
    rw [examine_eq, examine_eq]
    exact examineWith_congr b fun hphase => absurd (hr.kept_pos hphase) (Nat.not_lt.mpr hr.bounded)
  | succ d ih =>
    rw [examine_eq, examine_eq]
    refine examineWith_congr b fun hphase => ?_
    have hkept := hr.kept_pos hphase
    have hlength : (r.hunter.kept.drop 1 ++ [b]).length = r.hunter.kept.length := by
      simp only [List.length_append, List.length_drop, List.length_singleton]
      omega
    have hbound := hr.bounded
    have hbound' := hr'.bounded
    cases d' with
    | zero => omega
    | succ d' =>
      exact foldl_examine_congr (fun _ b => ih b) _
        (Hunter.initial_within 0) (by omega) (by omega)

/-- The re-examination of no more bytes than a hunter can keep is what the bytes give when they arrive anew (R138). -/
theorem HunterRun.rehunt_discard (r : HunterRun) {bytes : List Byte} (h : bytes.length ≤ rehuntDepth) :
    HunterRun.rehunt rehuntDepth bytes r.discard = r.discard.examineAll bytes :=
  foldl_examine_congr (fun _ b => examine_depth_congr b) bytes (Hunter.initial_within 0)
    (by simpa [rehuntDepth] using h) (by simpa using Nat.le_succ_of_le h)

/-! ## The judgement of a message -/

section
variable {r : HunterRun} {rehunt : List Byte → HunterRun → HunterRun} {sync high low type seq len : Byte} {body : List Byte}

theorem HunterRun.covered_eq (h : r.hunter.kept = sync :: len :: type :: seq :: (body ++ [high])) :
    (r.hunter.kept.drop 1).dropLast = len :: type :: seq :: body := by
  rw [h]
  exact List.dropLast_concat (l₁ := len :: type :: seq :: body)

/-- A wrong check: the message is discarded and its bytes behind the SYNC are hunted through again (R138). -/
theorem HunterRun.judge_wrongCheck (h : r.hunter.kept = sync :: len :: type :: seq :: (body ++ [high]))
    (hcheck : messageCheck (len :: type :: seq :: body) ≠ word16Of high low) :
    r.judge rehunt high low = rehunt (len :: type :: seq :: (body ++ [high, low])) r.discard := by
  have hbytes : r.hunter.kept.drop 1 ++ [low] = len :: type :: seq :: (body ++ [high, low]) := by simp [h]
  rw [judge, covered_eq h, if_pos hcheck, hbytes]

/-- A correct check over a REQUEST: it is accepted (R136). -/
theorem HunterRun.judge_request (h : r.hunter.kept = sync :: len :: type :: seq :: (body ++ [high]))
    (hcheck : messageCheck (len :: type :: seq :: body) = word16Of high low) (htype : type = requestType) :
    r.judge rehunt high low =
      { r with
        hunter := .initial
        accepted := r.accepted ++ [⟨seq, messageCheck (len :: type :: seq :: body), body⟩] } := by
  rw [judge, covered_eq h, if_neg (not_not_intro hcheck)]
  exact if_pos htype

/-- A correct check over a message of another type: it is discarded (R136). -/
theorem HunterRun.judge_wrongType (h : r.hunter.kept = sync :: len :: type :: seq :: (body ++ [high]))
    (hcheck : messageCheck (len :: type :: seq :: body) = word16Of high low) (htype : type ≠ requestType) :
    r.judge rehunt high low = r.discard := by
  rw [judge, covered_eq h, if_neg (not_not_intro hcheck)]
  exact if_neg htype

end

theorem exec_messageReceived {s : State} {high : Byte} (hs : s.part ≠ .booting) (hphase : s.line.hunter.phase = .check)
    (hhigh : s.line.hunter.checkHigh = some high) (low : Byte) :
    exec (.messageReceived low) s = .next (s.takeHunt (s.hunt.judge (HunterRun.rehunt rehuntDepth) high low)) := by
  rw [exec, execMessageReceived, if_pos ⟨hs, hphase, by rw [hhigh]; rfl⟩,
    HunterRun.examine_checkLow (r := s.hunt) _ hphase hhigh]

/-- Settles O41, judgement by judgement; a wrong check by `HunterRun.rehunt_discard` and the run of the bytes at the part. -/
theorem messageJudgedAtLastByte : Obligations.MessageJudgedAtLastByte := by
  intro s len type seq high low body left hs hbody hhunter check errors hunting discarded
  have hphase : s.line.hunter.phase = .check := by rw [hhunter]
  have hhigh : s.line.hunter.checkHigh = some high := by rw [hhunter]
  have hkept : s.hunt.hunter.kept = 0xA5#8 :: len :: type :: seq :: (body ++ [high]) := by rw [State.hunt, hhunter]
  have hdiscard : s.takeHunt s.hunt.discard = discarded := s.takeHunt_discard
  rw [exec_messageReceived hs hphase hhigh]
  refine ⟨?_, fun hc ht => ?_, fun hc ht => ?_, fun hc => ⟨_, rfl, ?_⟩⟩
  · rw [exec_byteReceived hs, HunterRun.examine_checkLow (r := s.hunt) _ hphase hhigh]
  · rw [HunterRun.judge_request hkept hc ht]
    rfl
  · rw [HunterRun.judge_wrongType hkept hc ht, hdiscard]
  · have hlength : (len :: type :: seq :: (body ++ [high, low])).length ≤ rehuntDepth := by
      simp only [List.length_cons, List.length_append, List.length_nil, rehuntDepth]
      omega
    have hpart : (s.takeHunt s.hunt.discard).part ≠ .booting := by rwa [State.takeHunt_part]
    rw [HunterRun.judge_wrongCheck hkept hc, HunterRun.rehunt_discard _ hlength, ← hdiscard,
      State.runAll_byteReceived hpart, State.takeHunt_takeHunt, State.hunt_takeHunt]
    rfl

/-! ## A whole message -/

/-- The bytes that LEN announces are kept, and the first CHECK byte is awaited (R135). -/
theorem HunterRun.examineAll_collect (kept : List Byte) (linkErrors : Word16) (accepted : List Request) (bytes : List Byte)
    (h : bytes ≠ []) :
    HunterRun.examineAll ⟨⟨.collect, kept, bytes.length, none⟩, linkErrors, accepted⟩ bytes =
      ⟨⟨.check, kept ++ bytes, 0, none⟩, linkErrors, accepted⟩ := by
  induction bytes generalizing kept with
  | nil => exact absurd rfl h
  | cons b bytes ih =>
    rw [examineAll_cons]
    cases hbytes : bytes with
    | nil => rw [examine_collected _ rfl rfl]; rfl
    | cons c rest =>
      rw [← hbytes, examine_collect _ rfl (by simp [hbytes])]
      simpa using ih (kept ++ [b]) (by simp [hbytes])

/-- The two bytes of a number spell it (R134). -/
theorem word16Of_bytes (x : Word16) : word16Of (x.extractLsb' 8 8) (x.extractLsb' 0 8) = x := by
  refine BitVec.eq_of_getLsbD_eq fun i hi => ?_
  simp only [word16Of, BitVec.getLsbD_append, BitVec.getLsbD_extractLsb']
  grind

/-- A whole REQUEST at a hunter in HUNT: its SYNC, its LEN, the bytes that LEN announces, and the two CHECK bytes (R133 to
R136). -/
theorem HunterRun.examineAll_request (linkErrors : Word16) (seq : Byte) {len high low : Byte} {body : List Byte}
    (hlen : len.toNat = body.length + 2) (hbody : body.length ≤ 248)
    (hcheck : messageCheck (len :: requestType :: seq :: body) = word16Of high low) :
    HunterRun.examineAll ⟨.initial, linkErrors, []⟩ (syncByte :: len :: (requestType :: seq :: body ++ [high, low])) =
      ⟨.initial, linkErrors, [⟨seq, messageCheck (len :: requestType :: seq :: body), body⟩]⟩ := by
  have hcollect : len.toNat = (requestType :: seq :: body).length := hlen
  rw [examineAll_cons, examine_sync _ rfl rfl, examineAll_cons, examine_len _ rfl (badLen_eq_false (by omega) (by omega)),
    hcollect, examineAll_append, examineAll_collect _ _ _ _ (by simp), examineAll_cons, examine_checkHigh _ rfl rfl,
    examineAll_cons, examine_checkLow _ rfl rfl, judge_request rfl hcheck rfl]
  rfl

/-- Settles O42: the run of the bytes at the hunter, taken over by the part. -/
theorem wholeRequestArrives : Obligations.WholeRequestArrives := by
  intro s seq body hs hbody hhunter covered check
  have hhunt : s.hunt = ⟨.initial, s.line.linkErrors, []⟩ := by rw [State.hunt, hhunter]; rfl
  have hline : ({ s.line with hunter := .initial } : HostLine) = s.line := by rw [Hunter.initial, ← hhunter]
  have hlen : (BitVec.ofNat 8 (body.length + 2)).toNat = body.length + 2 := by
    rw [BitVec.toNat_ofNat]
    omega
  have hexamined : s.hunt.examineAll (0xA5#8 :: (covered ++ bytes16 check)) =
      ⟨.initial, s.line.linkErrors, [⟨seq, check, body⟩]⟩ :=
    hhunt ▸ HunterRun.examineAll_request s.line.linkErrors seq hlen hbody (word16Of_bytes check).symm
  rw [State.runAll_byteReceived hs, hexamined, State.takeHunt_one, hline]

end Sys2Proof.Machine
end

section
/-! SUPPORT. The line break with the end of a session (R141, R149, R172), and the arrival of a request (R150). -/

namespace Sys2Proof.Machine

/-! ## The line break -/

/-- What a session end does to an entry, by its state and its mark (R172). -/
theorem DeliveryEntry.returned_eq (e : DeliveryEntry) :
    e.returned =
      if e.state = .sent then { e with state := .waiting }
      else if e.state = .sending ∧ e.mark = .none then { e with mark := .toReturn }
      else e := by
  rcases e with ⟨slot, number, _ | _ | _, _ | _ | _⟩ <;> rfl

/-- In BOOTING the host line hears nothing (R142). -/
theorem exec_hostLine_booting {s : State} (hs : s.part = .booting) (b : Byte) :
    exec .lineBreak s = .next s ∧ exec (.byteReceived b) s = .next s ∧ exec .framingError s = .next s ∧
      exec (.badLength b) s = .next s ∧ exec .gapExpiry s = .next s ∧ exec (.messageReceived b) s = .next s := by
  simp [exec, execLineBreak, execByteReceived, execFramingError, execBadLength, execGapExpiry, execMessageReceived, hs]

theorem exec_lineBreak {s : State} (hs : s.part ≠ .booting) :
    exec .lineBreak s =
      .next (if s.engine.session = .opened then State.endSession { s with line := { s.line with hunter := .initial } }
        else { s with line := { s.line with hunter := .initial } }) := by
  rw [exec, execLineBreak, if_neg hs]

/-- Settles O43, by the part state and the session state. -/
theorem lineBreakEndsSession : Obligations.LineBreakEndsSession := by
  intro s hunting returned
  have hreturned : DeliveryEntry.returned = returned := funext DeliveryEntry.returned_eq
  refine ⟨fun hs b => exec_hostLine_booting hs b, fun hs hclosed => ?_, fun hs hopened => ?_⟩
  · rw [exec_lineBreak hs, if_neg (by simp [hclosed])]
    rfl
  · rw [exec_lineBreak hs, if_pos hopened, State.endSession, hreturned]
    rfl

/-! ## The arrival of a request -/

/-- The pair of a request is that of a waiting or a parked one (R150, step 1). -/
theorem Engine.isWaiting_iff (g : Engine) (r : Request) :
    g.isWaiting r = true ↔
      (∃ q ∈ g.inbox, q.seq = r.seq ∧ q.check = r.check) ∨ ∃ p ∈ g.parked, p.seq = r.seq ∧ p.check = r.check := by
  simp [Engine.isWaiting]

/-- The first cache entry with the pair answers (R150, step 2). -/
theorem Engine.cached_some {g : Engine} {r : Request} {before behind : List CacheEntry} {c : CacheEntry}
    (hcache : g.cache = before ++ c :: behind) (hseq : c.seq = r.seq) (hcheck : c.check = r.check)
    (hbefore : ∀ x ∈ before, ¬ (x.seq = r.seq ∧ x.check = r.check)) : g.cached r = some c.reply := by
  have hfind : g.cache.find? (fun c => c.seq == r.seq && c.check == r.check) = some c :=
    List.find?_eq_some_iff_append.mpr
      ⟨by simp [hseq, hcheck], before, behind, hcache, by simpa [← not_and_or] using hbefore⟩
  rw [Engine.cached, hfind, Option.map_some]

theorem Engine.cached_none {g : Engine} {r : Request} (h : ∀ c ∈ g.cache, ¬ (c.seq = r.seq ∧ c.check = r.check)) :
    g.cached r = none := by
  rw [Engine.cached, Option.map_eq_none_iff, List.find?_eq_none]
  simpa using h

theorem Request.isHello_eq_false_iff (r : Request) : r.isHello = false ↔ r.body.head? ≠ some 0x01#8 := by
  rw [Request.isHello, beq_eq_false_iff_ne]
  rfl

/-- A reply at an arrival joins the queue while fewer than eight are queued (R143). -/
theorem State.replyAtArrival_eq (s : State) (x : Reply) :
    s.replyAtArrival x = { s with line := { s.line with
      replies := if s.line.replies.length < 8 then s.line.replies ++ [x] else s.line.replies } } := by
  unfold State.replyAtArrival
  split <;> rfl

/-- An arrival that is no repeat of a waiting or of an answered request (R150, steps 3 to 5). -/
theorem State.arrive_new {s : State} {r : Request} (hwaiting : ¬ s.engine.isWaiting r = true)
    (hcached : s.engine.cached r = none) :
    s.arrive r =
      if s.engine.session = .closed ∧ r.body.head? ≠ some 0x01#8 then s.replyAtArrival (r.reply .noSession 0 [])
      else if 4 ≤ s.engine.inbox.length then s.replyAtArrival (r.reply .full 0 [])
      else { s with engine := { s.engine with inbox := s.engine.inbox ++ [r] } } := by
  rw [State.arrive, if_neg hwaiting, hcached]
  simp only [r.isHello_eq_false_iff, Config.inboxCapacity]

/-- Settles O44, step by step of R150. -/
theorem arrivalStepsInOrder : Obligations.ArrivalStepsInOrder := by
  intro s r waiting replies queued uncached shut
  have hiff : s.engine.isWaiting r = true ↔ waiting := s.engine.isWaiting_iff r
  have hqueued (x : Reply) : s.replyAtArrival x = queued x := s.replyAtArrival_eq x
  have hnew (hw : ¬ waiting) (hc : uncached) := State.arrive_new (mt hiff.mp hw) (Engine.cached_none hc)
  refine ⟨fun hw => ?_, fun before c behind hw hcache hseq hcheck hbefore => ?_, fun hw hc hshut => ?_,
    fun hw hc hshut hfull => ?_, fun hw hc hshut hroom => ?_⟩
  · rw [State.arrive, if_pos (hiff.mpr hw)]
  · rw [State.arrive, if_neg (mt hiff.mp hw), Engine.cached_some hcache hseq hcheck hbefore]
    exact hqueued c.reply
  · rw [hnew hw hc, if_pos hshut, hqueued]
    rfl
  · rw [hnew hw hc, if_neg hshut, if_pos hfull, hqueued]
    rfl
  · rw [hnew hw hc, if_neg hshut, if_neg (by omega)]

end Sys2Proof.Machine
end

section
/-! SUPPORT. The host line outward: the messages byte by byte (R133, R134, R177, R195, R196), the outbound choice (R144) and the
completions of the four message classes (R145). -/

namespace Sys2Proof.Machine

/-! ## Numbers as bytes, high byte first -/

/-- The bytes of a number, high byte first. -/
def numberBytes (w n : Nat) : List Byte :=
  (List.range w).map fun k => BitVec.ofNat 8 (n / 256 ^ (w - 1 - k))

theorem extractLsb'_byte {w : Nat} (x : BitVec w) (k : Nat) :
    x.extractLsb' (8 * k) 8 = BitVec.ofNat 8 (x.toNat / 256 ^ k) := by
  rw [BitVec.extractLsb', Nat.shiftRight_eq_div_pow, Nat.pow_mul]

theorem bytes16_eq (x : Word16) : bytes16 x = numberBytes 2 x.toNat := by
  change [x.extractLsb' (8 * 1) 8, x.extractLsb' (8 * 0) 8] = _
  simp only [extractLsb'_byte]
  rfl

theorem bytes24_eq (x : Tag) : bytes24 x = numberBytes 3 x.toNat := by
  change [x.extractLsb' (8 * 2) 8, x.extractLsb' (8 * 1) 8, x.extractLsb' (8 * 0) 8] = _
  simp only [extractLsb'_byte]
  rfl

theorem bytes32_eq (x : Word32) : bytes32 x = numberBytes 4 x.toNat := by
  change [x.extractLsb' (8 * 3) 8, x.extractLsb' (8 * 2) 8, x.extractLsb' (8 * 1) 8, x.extractLsb' (8 * 0) 8] = _
  simp only [extractLsb'_byte]
  rfl

/-! ## The messages -/

theorem crcBit_eq (poly c : Word16) (b : Bool) :
    crcBit poly c b = if c.getLsbD 15 != b then (c <<< 1) ^^^ poly else c <<< 1 := by
  rw [crcBit, BitVec.msb_eq_getLsbD_last]

/-- The check of R134 over the bits of the bytes, most significant bit first. -/
theorem messageCheck_eq (bytes : List Byte) :
    messageCheck bytes =
      (bytes.flatMap fun b => (List.range 8).map fun k => b.getLsbD (7 - k)).foldl
        (fun (c : Word16) b => if c.getLsbD 15 != b then (c <<< 1) ^^^ 0x1021#16 else c <<< 1) 0xFFFF#16 := by
  simp only [messageCheck, crcOf, funext₂ (crcBit_eq 0x1021#16), bytesToBits, natToBits_eq_map_range]
  rfl

/-- The kind, the subject and the seven detail bytes of an event, its unused ones 00h (R177, R196). -/
theorem EventRecord.body_eq (e : EventRecord) (lost : Word16) :
    e.body lost =
      numberBytes 2 e.number.toNat ++ numberBytes 2 lost.toNat ++ [e.info.kindCode, e.info.subject] ++
        numberBytes 4 e.stamp.toNat ++ (e.info.detail ++ List.replicate (7 - e.info.detail.length) 0x00#8) := by
  rw [EventRecord.body, bytes16_eq, bytes16_eq, bytes32_eq]

theorem TxDone.body_eq (d : TxDone) :
    d.body = [BitVec.ofNat 8 d.entry.val, d.outcome.code, BitVec.ofNat 8 d.attempts] ++ numberBytes 3 d.tag.toNat ++
      numberBytes 4 d.stamp.toNat := by
  rw [TxDone.body, bytes24_eq, bytes32_eq]
  rfl

/-- A valid frame of kind QUERY has no payload (R4). -/
theorem SlotRecord.payload_eq {r : SlotRecord} (h : r.frameOut.valid = true) :
    r.payload = if r.kind = .data then r.payload else [] := by
  split
  · rfl
  · next hkind =>
    have hquery : r.kind = .query := by
      cases h : r.kind with
      | data => exact absurd h hkind
      | query => rfl
    have hlength : r.payload.length = payloadSize r.kind r.length := (r.frameOut.valid_iff.mp h).2
    rw [hquery] at hlength
    exact List.length_eq_zero_iff.mp hlength

theorem captureBody_eq {number seq generation : Word16} {i : IngressNo} {index : Nat} {r : SlotRecord}
    (hseq : r.seq = some seq) (hclassified : r.classified = some ⟨generation, index⟩) (hvalid : r.frameOut.valid = true) :
    captureBody number (.ingress i) r =
      numberBytes 2 number.toNat ++ [BitVec.ofNat 8 i.val] ++ numberBytes 2 seq.toNat ++ numberBytes 3 r.tagReceived.toNat ++
        numberBytes 3 r.tagOut.toNat ++ [if r.kind = .data then 1#8 else 2#8, BitVec.ofNat 8 r.length] ++
        numberBytes 4 r.stamp.toNat ++ numberBytes 2 generation.toNat ++ [BitVec.ofNat 8 index] ++
        if r.kind = .data then r.payload else [] := by
  have hkind : r.kind.code = if r.kind = .data then 1#8 else 2#8 := by cases r.kind <;> rfl
  rw [← SlotRecord.payload_eq hvalid, ← hkind, captureBody, hseq, hclassified]
  simp only [bytes16_eq, bytes24_eq, bytes32_eq, Option.getD_some]
  rfl

/-! ## The outbound choice -/

/-- The entries SENDING or SENT are those that are not WAITING (R166). -/
theorem Delivery.outstanding_eq (d : Delivery) :
    d.outstanding = (d.queue.filter fun e => e.state ≠ .waiting).length := by
  rw [Delivery.outstanding, List.countP_eq_length_filter]
  congr 2
  funext e
  cases e.state <;> rfl

theorem startFirstWaiting_found {before behind : List DeliveryEntry} {e : DeliveryEntry} (he : e.state = .waiting)
    (hbefore : ∀ x ∈ before, x.state ≠ .waiting) :
    startFirstWaiting (before ++ e :: behind) =
      some (e, before ++ { e with state := .sending, mark := .none } :: behind) := by
  induction before with
  | nil => simp [startFirstWaiting, he]
  | cons x before ih =>
    obtain ⟨hx, hrest⟩ := List.forall_mem_cons.mp hbefore
    simp [startFirstWaiting, hx, ih hrest]

theorem startFirstWaiting_none {queue : List DeliveryEntry} (h : ∀ x ∈ queue, x.state ≠ .waiting) :
    startFirstWaiting queue = none := by
  induction queue with
  | nil => rfl
  | cons x queue ih =>
    obtain ⟨hx, hrest⟩ := List.forall_mem_cons.mp h
    simp [startFirstWaiting, hx, ih hrest]

section
variable {s : State}

/-- A queued reply goes before every notice (R144). -/
theorem exec_outboundChoice_reply (hs : s.part ≠ .booting) (hfree : s.line.htx = none) {r : Reply} {rest : List Reply}
    (h : s.line.replies = r :: rest) : exec .outboundChoice s = .next (s.transmit .reply r.bytes) := by
  rw [exec, execOutboundChoice, if_pos ⟨hs, hfree⟩, h]

/-- Without a reply, a notice in an OPEN session only (R144). -/
theorem exec_outboundChoice_notice (hs : s.part ≠ .booting) (hfree : s.line.htx = none) (h : s.line.replies = []) :
    exec .outboundChoice s = .next (if s.engine.session = .opened then s.startNotice else s) := by
  rw [exec, execOutboundChoice, if_pos ⟨hs, hfree⟩, h]

theorem State.startNotice_txDone {d : TxDone} {rest : List TxDone} (h : s.txDone = d :: rest) :
    s.startNotice = s.transmit .txDone (s.noticeBytes .txDone d.body) := by
  rw [State.startNotice, h]

theorem State.startNotice_event {e : EventRecord} {rest : List EventRecord} (htxDone : s.txDone = [])
    (h : s.events.queue = e :: rest) :
    s.startNotice =
      State.transmit { s with events := { s.events with lost := 0 } } .event (s.noticeBytes .event (e.body s.events.lost)) := by
  rw [State.startNotice, htxDone, h]

theorem State.startNotice_capture (htxDone : s.txDone = []) (hevents : s.events.queue = []) :
    s.startNotice = s.startCapture := by
  rw [State.startNotice, htxDone, hevents]

/-- The first WAITING capture starts while fewer are outstanding than W (R166, R167). -/
theorem State.startCapture_found {before behind : List DeliveryEntry} {e : DeliveryEntry}
    (hroom : (s.delivery.queue.filter fun e => e.state ≠ .waiting).length < s.delivery.window)
    (hqueue : s.delivery.queue = before ++ e :: behind) (he : e.state = .waiting)
    (hbefore : ∀ x ∈ before, x.state ≠ .waiting) :
    s.startCapture =
      State.transmit
        { s with delivery := { s.delivery with
            queue := before ++ { e with state := .sending, mark := .none } :: behind } }
        .capture (s.noticeBytes .capture (captureBody e.number (s.store.source e.slot) (s.store.record e.slot))) := by
  have hfound : startFirstWaiting s.delivery.queue = _ := hqueue ▸ startFirstWaiting_found he hbefore
  rw [State.startCapture, if_pos (s.delivery.outstanding_eq ▸ hroom), hfound]

theorem State.startCapture_none
    (h : s.delivery.window ≤ (s.delivery.queue.filter fun e => e.state ≠ .waiting).length ∨
      ∀ x ∈ s.delivery.queue, x.state ≠ .waiting) : s.startCapture = s := by
  rw [State.startCapture, s.delivery.outstanding_eq]
  split
  · next hroom => rw [startFirstWaiting_none (h.resolve_left (Nat.not_le.mpr hroom))]
  · rfl

end

/-- Settles O45: the messages after the statement's spelling of numbers and of the check has been turned into the model's, then
the choice, class by class. -/
theorem outboundChoiceOrder : Obligations.OutboundChoiceOrder := by
  unfold Obligations.OutboundChoiceOrder
  intro word check
  have hcheck (bytes : List Byte) : messageCheck bytes = check bytes := messageCheck_eq bytes
  refine ⟨fun type seq body => ?_, fun d => ?_, fun e lost => ?_, fun _ _ _ _ _ _ => captureBody_eq, fun s hs hfree => ?_⟩
  · intro covered
    rw [messageBytes, bytes16_eq, hcheck]
    rfl
  · rw [d.body_eq]
    cases d.outcome <;> rfl
  · intro described
    have hdescribed :
        (e.info.kindCode, e.info.subject, e.info.detail ++ List.replicate (7 - e.info.detail.length) 0x00#8) = described := by
      unfold described
      cases e.info with
      | partState new => cases new <;> rfl
      | tapState t new => cases new <;> rfl
      | trunkState new faults => cases new <;> rfl
      | drops i reason value =>
        simp only [EventInfo.detail, bytes32_eq]
        cases reason <;> rfl
      | relayAbandon reason source seq tagOut attempts =>
        simp only [EventInfo.detail, bytes16_eq, bytes24_eq]
        cases reason <;> cases source <;> rfl
      | relayStopped removed => rfl
    rw [e.body_eq, ← hdescribed]
    rfl
  · intro sending quiet outstanding
    have hnotice : quiet → exec .outboundChoice s = .next s.startNotice := by
      rintro ⟨hreplies, hopened⟩
      rw [exec_outboundChoice_notice hs hfree hreplies, if_pos hopened]
    refine ⟨fun r rest hreplies => ?_, fun hreplies hclosed => ?_, fun d rest hq htxDone => ?_,
      fun e rest hq htxDone hevents => ?_, fun before e behind hq htxDone hevents hroom hqueue he hbefore => ?_,
      fun hq htxDone hevents hnone => ?_⟩
    · exact exec_outboundChoice_reply hs hfree hreplies
    · rw [exec_outboundChoice_notice hs hfree hreplies, if_neg (by simp [hclosed])]
    · rw [hnotice hq, State.startNotice_txDone htxDone]
      rfl
    · rw [hnotice hq, State.startNotice_event htxDone hevents]
      rfl
    · rw [hnotice hq, State.startNotice_capture htxDone hevents, State.startCapture_found hroom hqueue he hbefore]
      rfl
    · rw [hnotice hq, State.startNotice_capture htxDone hevents, State.startCapture_none hnone]

/-! ## The completions -/

theorem State.sends_of_htx {s : State} {kind : MessageClass} {bytes : List Byte} (h : s.line.htx = some ⟨kind, bytes⟩) :
    s.sends kind = true := by
  simp [State.sends, h]

theorem Reply.isReset_iff (r : Reply) : r.isReset = true ↔ r.code = 0x05#8 ∧ r.status = .ok := by
  simp [Reply.isReset, RequestCode.byte]

/-- A completion changes no entry but a SENDING one (R168). -/
theorem DeliveryEntry.completed_of_not_sending {e : DeliveryEntry} (h : e.state ≠ .sending) :
    e.completed = e ∧ e.leavesAtCompletion = false := by
  rcases e with ⟨slot, number, _ | _ | _, mark⟩
  case sending => exact absurd rfl h
  all_goals exact ⟨rfl, rfl⟩

theorem filter_map_completed {queue : List DeliveryEntry} (h : ∀ x ∈ queue, x.state ≠ .sending) :
    (queue.filter fun x => !x.leavesAtCompletion).map DeliveryEntry.completed = queue := by
  have hstays (x : DeliveryEntry) (hx : x ∈ queue) : (!x.leavesAtCompletion) = true := by
    rw [(DeliveryEntry.completed_of_not_sending (h x hx)).2]
    rfl
  rw [List.filter_eq_self.mpr hstays]
  exact (List.map_congr_left fun x hx => (DeliveryEntry.completed_of_not_sending (h x hx)).1).trans (List.map_id queue)

theorem filter_leavesAtCompletion {queue : List DeliveryEntry} (h : ∀ x ∈ queue, x.state ≠ .sending) :
    queue.filter DeliveryEntry.leavesAtCompletion = [] := by
  rw [List.filter_eq_nil_iff]
  intro x hx
  rw [(DeliveryEntry.completed_of_not_sending (h x hx)).2]
  exact Bool.false_ne_true

/-- CAPTURE_COMPLETED with one SENDING entry: that entry alone leaves, or stays as completed (R168). -/
theorem exec_captureCompleted {s : State} {bytes : List Byte} {before behind : List DeliveryEntry} {e : DeliveryEntry}
    (hhtx : s.line.htx = some ⟨.capture, bytes⟩) (hqueue : s.delivery.queue = before ++ e :: behind)
    (hother : ∀ x ∈ before ++ behind, x.state ≠ .sending) :
    exec .captureCompleted s = .next { s with
      line := { s.line with htx := none }
      delivery := { s.delivery with
        queue := before ++ (if e.leavesAtCompletion then [] else [e.completed]) ++ behind }
      store := if e.leavesAtCompletion then s.store.leave .delivery e.slot else s.store } := by
  obtain ⟨hbefore, hbehind⟩ := List.forall_mem_append.mp hother
  rw [exec, execCaptureCompleted, if_pos (State.sends_of_htx hhtx), hqueue]
  simp only [List.filter_append, List.filter_cons, List.map_append, filter_map_completed hbefore,
    filter_leavesAtCompletion hbefore, filter_leavesAtCompletion hbehind]
  cases e.leavesAtCompletion
  · simp [filter_map_completed hbehind, Store.leaveAll_nil, State.freeTransmitter]
  · simp [filter_map_completed hbehind, Store.leaveAll_cons, Store.leaveAll_nil, State.freeTransmitter]

/-- Settles O46, class by class, and a capture by the mark of its entry. -/
theorem completionsHandedOn : Obligations.CompletionsHandedOn := by
  intro s bytes free
  refine ⟨fun br1 br0 r rest hhtx hreplies hreset => ?_, fun before e behind hhtx hqueue he hother => ?_,
    fun d rest hhtx htxDone => ?_, fun e rest hhtx hqueue => ?_⟩
  · rw [exec, execReplyCompleted, if_pos (State.sends_of_htx hhtx), hreplies]
    exact congrArg _ (if_neg (mt r.isReset_iff.mp hreset))
  · rw [exec_captureCompleted hhtx hqueue hother]
    refine ⟨fun hmark => ?_, fun hmark => ?_, fun hmark => ?_⟩
    all_goals simp [DeliveryEntry.leavesAtCompletion, DeliveryEntry.completed, he, hmark, free]
  · rw [exec, execTxDoneCompleted, if_pos (State.sends_of_htx hhtx), htxDone]
    rfl
  · rw [exec, execEventCompleted, if_pos (State.sends_of_htx hhtx), hqueue]
    rfl

end Sys2Proof.Machine
end

section
/-! SUPPORT. Replies: what the reply cache keeps (R156), and what the completion of a parked request writes (R155, R157). -/

namespace Sys2Proof.Machine

/-! ## The reply cache -/

section
variable {cache before behind : List CacheEntry} {e old : CacheEntry}

/-- The entry with the same s leaves (R156). -/
theorem insertCache_same (hother : ∀ c ∈ before ++ behind, c.seq ≠ e.seq) (hold : old.seq = e.seq) :
    insertCache (before ++ old :: behind) e = before ++ behind ++ [e] := by
  obtain ⟨hbefore, hbehind⟩ := List.forall_mem_append.mp hother
  have hkept (l : List CacheEntry) (hl : ∀ c ∈ l, c.seq ≠ e.seq) : l.filter (fun c => c.seq != e.seq) = l :=
    List.filter_eq_self.mpr (by simpa using hl)
  have hany : (before ++ old :: behind).any (fun c => c.seq == e.seq) = true := by simp [hold]
  rw [insertCache, if_pos hany, List.filter_append, List.filter_cons_of_neg (by simp [hold]), hkept before hbefore,
    hkept behind hbehind]

theorem any_seq_eq_false (hfresh : ∀ c ∈ cache, c.seq ≠ e.seq) : ¬ cache.any (fun c => c.seq == e.seq) = true := by
  simpa using hfresh

theorem insertCache_room (hfresh : ∀ c ∈ cache, c.seq ≠ e.seq) (hroom : cache.length < 8) :
    insertCache cache e = cache ++ [e] := by
  rw [insertCache, if_neg (any_seq_eq_false hfresh), if_neg (Nat.not_le.mpr hroom)]

theorem insertCache_full (hfresh : ∀ c ∈ cache, c.seq ≠ e.seq) (hfull : 8 ≤ cache.length) :
    insertCache cache e = cache.drop 1 ++ [e] := by
  rw [insertCache, if_neg (any_seq_eq_false hfresh), if_pos hfull]

end

/-- Where the s are distinct, no entry beside one with this s has it. -/
theorem seq_ne_of_nodup {before behind : List CacheEntry} {old : CacheEntry}
    (h : ((before ++ old :: behind).map CacheEntry.seq).Nodup) : ∀ c ∈ before ++ behind, c.seq ≠ old.seq := by
  rw [List.map_append, List.map_cons, List.nodup_middle, ← List.map_append, List.nodup_cons] at h
  exact fun c hc hseq => h.1 (hseq ▸ List.mem_map_of_mem hc)

/-- Settles O24, by whether the cache holds the s, and if not by whether it is full. -/
theorem replyCacheInsertion : Obligations.ReplyCacheInsertion := by
  intro cache e hlength hnodup
  refine ⟨insertCache_length_le hlength e, nodup_seq_insertCache hnodup e, ?_, insertCache_room, ?_⟩
  · rintro before old behind rfl hold
    exact insertCache_same (hold ▸ seq_ne_of_nodup hnodup) hold
  · rintro oldest rest rfl hfresh hfull
    exact insertCache_full hfresh hfull.ge

/-! ## A parked request completes -/

/-- The only record of a subject is the one found, and the others stay (R155). -/
theorem parked_find_of_unique {before behind : List Parked} {p : Parked}
    (h : ∀ q ∈ before ++ behind, q.subject ≠ p.subject) :
    (before ++ p :: behind).find? (fun q => q.subject == p.subject) = some p ∧
      (before ++ p :: behind).filter (fun q => q.subject != p.subject) = before ++ behind := by
  obtain ⟨hbefore, hbehind⟩ := List.forall_mem_append.mp h
  have hkept (l : List Parked) (hl : ∀ q ∈ l, q.subject ≠ p.subject) : l.filter (fun q => q.subject != p.subject) = l :=
    List.filter_eq_self.mpr (by simpa using hl)
  refine ⟨List.find?_eq_some_iff_append.mpr ⟨by simp, before, behind, rfl, by simpa using hbefore⟩, ?_⟩
  rw [List.filter_append, List.filter_cons_of_neg (by simp), hkept before hbefore, hkept behind hbehind]

/-- A reply is queued, and cached where the session is OPEN and `current` holds (R157), as one write to the state. -/
theorem State.produceReply_eq (s : State) (check : Word16) (r : Reply) (current : Bool) :
    s.produceReply check r current = { s with
      line := { s.line with replies := s.line.replies ++ [r] }
      engine := { s.engine with cache :=
        if s.engine.session = .opened ∧ current = true then insertCache s.engine.cache ⟨r.seq, check, r⟩
        else s.engine.cache } } := by
  unfold State.produceReply
  split <;> rfl

/-- Settles O23: the record is found by its subject, and its reply is produced with the epoch test of R157. -/
theorem parkedRequestAnswered : Obligations.ParkedRequestAnswered := by
  intro s before behind p result hparked hunique code reply
  have hreply : p.reply result = reply := by
    rcases p with ⟨subject, seq, check, epoch⟩
    cases subject <;> rfl
  obtain ⟨hfind, hfilter⟩ := parked_find_of_unique hunique
  rw [State.answerParked_some result (hparked ▸ hfind), hparked, hfilter, State.produceReply_eq, hreply]
  simp only [beq_iff_eq]
  rfl

end Sys2Proof.Machine
end

section
/-! SUPPORT. The requests BAD_REQUEST, START, RESET and HELLO: which bodies R154 refuses, what a RESET makes of the reply queue
(R190, R194), and the session that a HELLO opens (R147). -/

namespace Sys2Proof.Machine

/-! ## The bodies that are refused -/

theorem RequestCode.mem_all (k : RequestCode) : k ∈ RequestCode.all := by cases k <;> decide

/-- The request codes of fixed length, with the field bytes behind each (chapter 12.2). -/
def fixedLengths : List (Byte × Nat) :=
  (RequestCode.all.filter (· ≠ .send)).map fun k => (k.byte, k.fieldBytes)

theorem mem_fixedLengths {k : RequestCode} (h : k ≠ .send) : (k.byte, k.fieldBytes) ∈ fixedLengths :=
  List.mem_map.mpr ⟨k, List.mem_filter.mpr ⟨k.mem_all, decide_eq_true h⟩, rfl⟩

theorem RequestCode.lengthFits_of_ne_send {k : RequestCode} (h : k ≠ .send) (fields : List Byte) :
    k.lengthFits fields = (fields.length == k.fieldBytes) := by
  cases k with
  | send => exact absurd rfl h
  | _ => rfl

/-- A SEND without its six fields, or with a payload of another size than they give, has a wrong length (R195). -/
theorem RequestCode.lengthFits_send_eq_false {fields : List Byte}
    (h : ∀ e t2 t1 t0 kind len payload, fields = e :: t2 :: t1 :: t0 :: kind :: len :: payload →
      payload.length ≠ sendPayloadSize kind len) : RequestCode.lengthFits .send fields = false := by
  unfold RequestCode.lengthFits
  split
  · next heq => exact beq_eq_false_iff_ne.mpr (h _ _ _ _ _ _ _ rfl)
  · rfl
  · next hsend _ => exact absurd rfl hsend

/-- A body is refused where no code with its first byte fits its length (R154). -/
theorem requestOf_eq_none {b : Byte} {fields : List Byte} (h : ∀ k : RequestCode, k.byte = b → k.lengthFits fields = false) :
    requestOf (b :: fields) = none := by
  cases hcode : RequestCode.ofByte b with
  | none => simp only [requestOf, hcode]
  | some k => simp [requestOf, hcode, h k (RequestCode.byte_of_ofByte hcode)]

theorem requestOf_wrong_length {b : Byte} {fields : List Byte} (hb : b ≠ RequestCode.send.byte)
    (h : ∀ n, (b, n) ∈ fixedLengths → fields.length ≠ n) : requestOf (b :: fields) = none := by
  refine requestOf_eq_none fun k hk => ?_
  have hsend : k ≠ .send := fun he => hb (by rw [← hk, he])
  rw [k.lengthFits_of_ne_send hsend]
  exact beq_eq_false_iff_ne.mpr (h _ (hk ▸ mem_fixedLengths hsend))

theorem requestOf_wrong_send {fields : List Byte}
    (h : ∀ e t2 t1 t0 kind len payload, fields = e :: t2 :: t1 :: t0 :: kind :: len :: payload →
      payload.length ≠ sendPayloadSize kind len) : requestOf (RequestCode.send.byte :: fields) = none := by
  refine requestOf_eq_none fun k hk => ?_
  have hsend : k = .send := by simpa [RequestCode.ofByte_byte] using congrArg RequestCode.ofByte hk
  rw [hsend]
  exact RequestCode.lengthFits_send_eq_false h

/-! ## The executions -/

section
variable {s : State} {r : Request} {rest : List Request}

theorem exec_badRequest (hr : s.Ready r rest) (hb : requestOf r.body = none) :
    exec .badRequest s = .next (s.replied r rest .badRequest 0 []) := by
  rw [exec, execBadRequest, State.serve_ready _ hr hb, State.refuse_eq]
  rfl

theorem exec_start (hr : s.Ready r rest) (hb : r.body = [0x03#8]) :
    exec .start s = .next (
      if s.part = .config then
        State.replied { s with part := .run, events := s.events.push (.partState .run) s.stamp } r rest .ok 0 [0x02#8]
      else s.replied r rest .state s.part.code []) := by
  rw [exec, execStart, State.serve_ready _ hr (hb ▸ requestOf_start), State.runStart]
  split
  · next hc =>
    rw [needState_ok _ hc, State.afterCheck_ok, State.answer_eq]
    rfl
  · next hc =>
    rw [needState_error _ hc, State.afterCheck_error, State.refuse_eq]
    rfl

/-- Whether a message of a class is on HTX. -/
theorem State.sends_iff (s : State) (kind : MessageClass) :
    s.sends kind = true ↔ ∃ bytes, s.line.htx = some ⟨kind, bytes⟩ := by
  refine ⟨fun h => ?_, fun ⟨_, h⟩ => State.sends_of_htx h⟩
  cases hhtx : s.line.htx with
  | none => simp [State.sends, hhtx] at h
  | some m =>
    obtain rfl : m.kind = kind := by simpa [State.sends, hhtx] using h
    exact ⟨m.bytes, rfl⟩

/-- The state after a RESET, with these replies queued (R190). -/
def State.resetMarked (s : State) (r : Request) (rest : List Request) (replies : List Reply) : State :=
  let answered := s.replied r rest .ok 0 []
  { answered with
    line := { answered.line with replies := replies }
    engine := { answered.engine with resetPending := true, overtaken := none } }

theorem State.replied_reset (hb : r.body = [0x05#8]) :
    (s.replied r rest .ok 0 []).line.replies = s.line.replies ++ [⟨r.seq, 0x05#8, .ok, 0, []⟩] := by
  rw [State.replied, hb]
  rfl

/-- RESET with no reply overtaken: its reply stands last (R190). -/
theorem exec_reset_overtaken_none (hr : s.Ready r rest) (hb : r.body = [0x05#8]) (hnone : s.engine.overtaken = none) :
    exec .reset s = .next (s.resetMarked r rest (s.line.replies ++ [⟨r.seq, 0x05#8, .ok, 0, []⟩])) := by
  rw [exec, execReset, State.serve_ready _ hr (hb ▸ requestOf_reset), State.runReset, State.answer_eq, hnone,
    ← State.replied_reset hb]
  rfl

/-- RESET with a reply overtaken: that one is sent back behind the RESET reply (R194). -/
theorem exec_reset_overtaken_some (hr : s.Ready r rest) (hb : r.body = [0x05#8]) {x : Reply}
    (hx : s.engine.overtaken = some x) :
    exec .reset s = .next (s.resetMarked r rest
      (sendBack (s.sends .reply).toNat x (s.line.replies ++ [⟨r.seq, 0x05#8, .ok, 0, []⟩]))) := by
  rw [exec, execReset, State.serve_ready _ hr (hb ▸ requestOf_reset), State.runReset, State.answer_eq, hx,
    ← State.replied_reset hb]
  rfl

/-- A HELLO in a CLOSED session opens one (R147). -/
theorem exec_hello_closed (hr : s.Ready r rest) (hb : r.body = [0x01#8]) (hclosed : s.engine.session = .closed) :
    let reply : Reply := ⟨r.seq, 0x01#8, .ok, 0, helloResult (nextEpoch s.engine.epoch)⟩
    exec .hello s = .next { s with
      line := { s.line with replies := s.line.replies ++ [reply] }
      engine := { s.engine with
        session := .opened, epoch := nextEpoch s.engine.epoch, inbox := rest, cache := [⟨r.seq, r.check, reply⟩] }
      delivery := { s.delivery with window := 0 } } := by
  have hopened : (s.taken rest).sessionOpened = { s.taken rest with
      engine := { s.engine with session := .opened, epoch := nextEpoch s.engine.epoch, inbox := rest, cache := [] }
      delivery := { s.delivery with window := 0 } } := by
    rw [State.sessionOpened, if_neg (by simp [hclosed])]
  rw [exec, execHello, State.serve_ready _ hr (hb ▸ requestOf_hello), State.runHello_eq, hopened, State.answer_eq,
    State.replied, hb]
  rfl

/-- A HELLO in an OPEN session ends it first (R147, R149). -/
theorem exec_hello_opened (hr : s.Ready r rest) (hb : r.body = [0x01#8]) (hopen : s.engine.session = .opened) :
    let reply : Reply := ⟨r.seq, 0x01#8, .ok, 0, helloResult (nextEpoch s.engine.epoch)⟩
    exec .hello s = .next { s with
      line := { s.line with replies := s.line.replies ++ [reply] }
      engine := { s.engine with
        session := .opened, epoch := nextEpoch s.engine.epoch, inbox := [], cache := [⟨r.seq, r.check, reply⟩]
        overtaken := none }
      delivery := { s.delivery with queue := s.delivery.queue.map DeliveryEntry.returned, window := 0 } } := by
  have hopened : (s.taken rest).sessionOpened = { s.taken rest with
      engine := { s.engine with
        session := .opened, epoch := nextEpoch s.engine.epoch, inbox := [], cache := [], overtaken := none }
      delivery := { s.delivery with queue := s.delivery.queue.map DeliveryEntry.returned, window := 0 } } := by
    rw [State.sessionOpened, if_pos hopen]
    rfl
  rw [exec, execHello, State.serve_ready _ hr (hb ▸ requestOf_hello), State.runHello_eq, hopened, State.answer_eq,
    State.replied, hb]
  rfl

end

/-- Settles O47: the refused bodies by what is wrong with them, START by the part state, RESET by what is overtaken and on HTX. -/
theorem badRequestStartAndReset : Obligations.BadRequestStartAndReset := by
  intro s r rest hr lengths wrong
  have hlengths : lengths = fixedLengths := rfl
  refine ⟨fun hwrong => exec_badRequest hr ?_, fun hb hc => ?_, fun hb hc => ?_, fun hb => ?_⟩
  · rcases hwrong with hb | ⟨b, fields, hb, hne, h⟩ | ⟨fields, hb, h⟩
    · rw [hb]; rfl
    · rw [hb]; exact requestOf_wrong_length hne (hlengths ▸ h)
    · rw [hb]; exact requestOf_wrong_send h
  · rw [exec_start hr hb, if_pos hc]
  · rw [exec_start hr hb, if_neg hc]
  · intro ok answered marked answeredBefore onLine
    refine ⟨exec_reset_overtaken_none hr hb, fun x hx hcode => ?_⟩
    have hne : ok ≠ x := by
      rintro rfl
      exact absurd hcode (show 0x05#8 ≠ 0x04#8 by decide)
    have honLine : s.sends .reply = true ↔ onLine := s.sends_iff .reply
    rw [exec_reset_overtaken_some hr hb hx]
    refine ⟨fun hfree => ?_, fun front waiting hsends hreplies => ?_⟩
    · rw [Bool.eq_false_iff.mpr (mt honLine.mp hfree), Bool.toNat_false, sendBack_append_none _ hne]
      rfl
    · rw [honLine.mpr hsends, Bool.toNat_true, hreplies, sendBack_append_front _ _ hne]
      rfl

/-- Settles O48, by the session that the HELLO finds. -/
theorem helloOpensSession : Obligations.HelloOpensSession := by
  intro s r rest hr hb epoch reply line engine returned
  have hreturned : DeliveryEntry.returned = returned := funext DeliveryEntry.returned_eq
  refine ⟨fun hclosed => exec_hello_closed hr hb hclosed, fun hopened => ?_⟩
  rw [← hreturned]
  exact exec_hello_opened hr hb hopened

end Sys2Proof.Machine
end

section
/-! SUPPORT. What each operation keeps of the laws of the session (R146, R149, R150, R156), and so what each command keeps. -/

namespace Sys2Proof.Machine

/-! ## What leaves the delivery window W as it is -/

theorem State.deliveryOffer_window (s : State) (i : IngressNo) (n : SlotNo) :
    (s.deliveryOffer i n).1.delivery.window = s.delivery.window := by
  unfold State.deliveryOffer
  split <;> rfl

theorem State.classify_window (s : State) (i : IngressNo) (n : SlotNo) (f : Frame) (r : SlotRecord) :
    (s.classify i n f r).delivery.window = s.delivery.window := by
  simp only [State.classify]
  split <;> split <;> split <;> simp [State.deliveryOffer_window]

theorem State.endFrame_window (s : State) (i : IngressNo) (p : InProgress) (v : Verdict) :
    (s.endFrame i p v).delivery.window = s.delivery.window := by
  cases v <;> cases p <;> simp [State.endFrame, State.endValidFrame, State.endInvalidFrame, State.classify_window]

namespace State.SessionLawful

variable {s t u : State}

/-- The law rests on the engine and on W alone. -/
theorem congr (h : s.SessionLawful) (hengine : t.engine = s.engine) (hwindow : t.delivery.window = s.delivery.window) :
    t.SessionLawful := by
  unfold State.SessionLawful
  rwa [hengine, hwindow]

/-- A session that is CLOSED with nothing left of it, as after a reset or a session end (R149, R163). -/
theorem of_closed (hsession : t.engine.session = .closed) (hcache : t.engine.cache = []) (hinbox : t.engine.inbox = [])
    (hwindow : t.delivery.window = 0) : t.SessionLawful := by
  simp [State.SessionLawful, hsession, hcache, hinbox, hwindow]

theorem ite {p : Prop} [Decidable p] (hu : u.SessionLawful) (h : s.SessionLawful) : (if p then u else s).SessionLawful := by
  split
  · exact hu
  · exact h

/-- The taps, the trunk port and the controller are no part of the law. -/
theorem outer (h : s.SessionLawful) (part : PartState) (stop : Option StopRecord) (taps : Vector Tap Config.tapCount)
    (trunk : Trunk) : State.SessionLawful { s with part := part, stop := stop, taps := taps, trunk := trunk } :=
  h

theorem storeEvent (h : s.SessionLawful) (info : EventInfo) : (s.storeEvent info).SessionLawful := h

theorem changeTap (h : s.SessionLawful) (k : TapNo) (f : Tap → Tap) (change : TapChange) :
    (s.changeTap k f change).SessionLawful :=
  h

theorem overtaken (h : s.SessionLawful) (x : Option Reply) :
    State.SessionLawful { s with engine := { s.engine with overtaken := x } } :=
  h

/-! ## Replies and parked requests -/

theorem answer {r : Request} {x : Status} {d : Byte} {result : List Byte} (h : s.SessionLawful) :
    (s.answer r x d result).SessionLawful :=
  h.produceReply _ _ _

theorem refuse (h : s.SessionLawful) (r : Request) (x : Status) (d : Byte) : (s.refuse r x d).SessionLawful := h.answer

theorem afterCheck {α : Type} {check : Except Refused α} {go : α → State} (h : s.SessionLawful) (r : Request)
    (hgo : ∀ a, (go a).SessionLawful) : (s.afterCheck r check go).SessionLawful := by
  unfold State.afterCheck
  split
  · exact h.refuse r _ _
  · exact hgo _

theorem answerParked (h : s.SessionLawful) (subject : ParkedSubject) (result : List Byte) :
    (s.answerParked subject result).SessionLawful := by
  unfold State.answerParked
  split
  · exact h
  · exact produceReply (s := { s with engine := { s.engine with
      parked := s.engine.parked.filter fun p => p.subject != subject } }) h _ _ _

/-- The requests left behind the one taken are HELLOs too (R153). -/
theorem taken {r : Request} {rest : List Request} (h : s.SessionLawful) (hr : s.Ready r rest) :
    (s.taken rest).SessionLawful := by
  obtain ⟨hclosed, hopened, hcache⟩ := h
  obtain ⟨-, -, -, hinbox⟩ := hr
  refine ⟨fun hs => ?_, hopened, hcache⟩
  obtain ⟨hempty, hwindow, hhello⟩ := hclosed hs
  exact ⟨hempty, hwindow, fun q hq => hhello q (hinbox ▸ List.mem_cons_of_mem r hq)⟩

/-- A request is taken and executed, or none is (R153). -/
theorem serve (h : s.SessionLawful) {code : Option RequestCode} {act : Request → State → State}
    (hact : ∀ (r : Request) (u : State), u.SessionLawful → (act r u).SessionLawful) : (s.serve code act).SessionLawful :=
  State.serve_cases h fun r _ hr _ => hact r _ (h.taken hr)

/-! ## Arrival -/

theorem replyAtArrival (h : s.SessionLawful) (x : Reply) : (s.replyAtArrival x).SessionLawful := by
  unfold State.replyAtArrival
  exact ite h h

/-- In a CLOSED session only a HELLO joins the inbox (R150, R151). -/
theorem arrive (h : s.SessionLawful) (r : Request) : (s.arrive r).SessionLawful := by
  unfold State.arrive
  split
  · exact h
  split
  · exact h.replyAtArrival _
  split
  · exact h.replyAtArrival _
  split
  · exact h.replyAtArrival _
  next hshut _ =>
  obtain ⟨hclosed, hopened, hcache⟩ := h
  refine ⟨fun hs => ?_, hopened, hcache⟩
  obtain ⟨hempty, hwindow, hhello⟩ := hclosed hs
  refine ⟨hempty, hwindow, fun q hq => ?_⟩
  rcases List.mem_append.mp hq with hq | hq
  · exact hhello q hq
  · rw [List.mem_singleton.mp hq]
    exact Bool.not_eq_false _ ▸ fun hr => hshut ⟨hs, hr⟩

theorem takeHunt (h : s.SessionLawful) (r : HunterRun) : (s.takeHunt r).SessionLawful := by
  have hfold (rs : List Request) (u : State) (hu : u.SessionLawful) : (rs.foldl State.arrive u).SessionLawful := by
    induction rs generalizing u with
    | nil => exact hu
    | cons q qs ih => exact ih _ (hu.arrive q)
  exact hfold r.accepted _ h

/-! ## The session opens and ends -/

theorem endSession (s : State) : s.endSession.SessionLawful := of_closed rfl rfl rfl rfl

theorem lineBreak (h : s.SessionLawful) : Machine.exec .lineBreak s = .next t → t.SessionLawful :=
  of_next (ite h (ite (endSession _) h))

/-- A HELLO opens a session with an epoch of 1 to 255, an empty cache and no equal s (R147). -/
theorem runHello (s : State) (r : Request) : (s.runHello r).SessionLawful := by
  have hopened : s.sessionOpened.SessionLawful := ⟨nofun, fun _ => nextEpoch_ne_zero _, List.nodup_nil⟩
  rw [State.runHello_eq]
  exact hopened.answer

/-- GRANT, which sets W, is executed in an OPEN session (R166). -/
theorem runGrant (h : s.SessionLawful) (hopen : s.engine.session = .opened) (r : Request) : (s.runGrant r).SessionLawful := by
  have hset (window : Nat) : State.SessionLawful { s with delivery := { s.delivery with window := window } } :=
    ⟨fun hs => absurd (hopen.symm.trans hs) (by decide), h.2⟩
  unfold State.runGrant
  split
  · exact h.afterCheck r fun window => (hset window).answer
  · exact h

theorem grant (h : s.SessionLawful) : (s.serve (some .grant) fun r s => s.runGrant r).SessionLawful :=
  State.serve_cases h fun r _ hr hc => (h.taken hr).runGrant (h.opened_of_ready hr hc (by decide)) r

/-! ## The store, the relay head and the host entries -/

theorem allocate (h : s.SessionLawful) (i : IngressNo) (stamp : Word32) : (s.allocate i stamp).1.SessionLawful := by
  rcases s.allocate_cases i stamp with ⟨_, heq⟩ | ⟨_, _, -, -, heq⟩
  · rwa [heq]
  · rw [heq]
    exact h

theorem endFrame (h : s.SessionLawful) (i : IngressNo) (p : InProgress) (v : Verdict) : (s.endFrame i p v).SessionLawful :=
  h.congr (s.endFrame_engine i p v) (s.endFrame_window i p v)

theorem abandonHead (h : s.SessionLawful) (reason : AbandonReason) : (s.abandonHead reason).SessionLawful :=
  h.congr (s.abandonHead_engine reason) (by rw [s.abandonHead_delivery reason])

theorem removeHead (h : s.SessionLawful) : s.removeHead.SessionLawful :=
  h.congr s.removeHead_engine (by rw [s.removeHead_delivery])

theorem applySent (h : s.SessionLawful) (c : Candidate) : (s.applySent c).SessionLawful := by
  cases c with
  | relayHead => exact h.removeHead
  | entry e => exact h

theorem applyLost (h : s.SessionLawful) (c : Candidate) : (s.applyLost c).SessionLawful := by
  cases c with
  | relayHead => exact ite (h.abandonHead _) h
  | entry e => exact ite (u := s.entryDone e _) h h

theorem applyFault (h : s.SessionLawful) (c : Candidate) : (s.applyFault c).SessionLawful := by
  cases c with
  | relayHead =>
    have hraised : s.raiseHeadAttempts.SessionLawful := h
    exact ite (hraised.abandonHead _) (ite (hraised.abandonHead _) hraised)
  | entry e => exact ite h (ite h h)

theorem foldl_entryDone (h : s.SessionLawful) (es : List EntryNo) (outcome : EntryOutcome) :
    (es.foldl (fun s e => s.entryDone e outcome) s).SessionLawful :=
  h.congr (s.foldl_entryDone_engine es outcome) (by rw [s.foldl_entryDone_delivery])

/-! ## Reports and the completion of a detach -/

theorem report (h : s.SessionLawful) (strike : StopRecord → StopRecord) : (s.report strike).SessionLawful := by
  have hcompleted : s.completeStop.SessionLawful := by
    have hstopped : s.relayEmptied.entriesStopped.SessionLawful := foldl_entryDone (s := s.relayEmptied) h _ _
    have hidle : State.SessionLawful { s.relayEmptied.entriesStopped with
        relay := { s.relayEmptied.entriesStopped.relay with gate := .opened }, part := .config, stop := none } :=
      hstopped
    rw [State.completeStop_eq]
    exact (hidle.storeEvent _).answerParked .stop _
  unfold State.report
  split
  · exact h
  · exact ite (ite (hcompleted.overtaken _) hcompleted) h

theorem detachIfIdle (h : s.SessionLawful) : s.detachIfIdle.SessionLawful := by
  have hdetached := (h.outer s.part s.stop s.taps s.trunk.detached).storeEvent (.trunkState .detached 0)
  exact ite (report (ite (hdetached.answerParked .detach _) hdetached) _) h

/-! ## Taps and the trunk port -/

theorem listenFrameEnd (h : s.SessionLawful) (k : TapNo) (v : Verdict) : (s.listenFrameEnd k v).SessionLawful := by
  cases v <;> exact h

theorem closingFrameEnd (h : s.SessionLawful) (k : TapNo) : (s.closingFrameEnd k).SessionLawful :=
  report (ite ((h.changeTap k _ _).answerParked _ _) (h.changeTap k _ _)) _

theorem closeTap (h : s.SessionLawful) (r : Request) (k : TapNo) : (s.closeTap r k).SessionLawful := by
  unfold State.closeTap
  split
  · exact h.answer
  · exact h
  · exact ite (h.refuse r _ _) h
  · exact (h.changeTap k _ _).answer.report _

theorem closeForStop (h : s.SessionLawful) (k : TapNo) : (s.closeForStop k).SessionLawful := by
  unfold State.closeForStop
  split
  · exact h.report _
  · exact h
  · exact h
  · exact (h.changeTap k _ _).report _

theorem detachForStop (h : s.SessionLawful) : s.detachForStop.SessionLawful :=
  ite (h.report _) (h.outer s.part s.stop s.taps _).detachIfIdle

theorem foldl_closeForStop (h : s.SessionLawful) (ks : List TapNo) : (ks.foldl State.closeForStop s).SessionLawful := by
  induction ks generalizing s with
  | nil => exact h
  | cons k ks ih => exact ih (h.closeForStop k)

theorem allClosed (h : s.SessionLawful) : s.allClosed.SessionLawful := by
  unfold State.allClosed
  exact detachForStop (h.foldl_closeForStop allTaps)

theorem runStop (h : s.SessionLawful) (r : Request) : (s.runStop r).SessionLawful := by
  have hbegun : (s.stopBegun r).SessionLawful := h
  unfold State.runStop
  split
  · rw [State.beginStop_eq]
    exact hbegun.allClosed.overtaken none
  · exact h.refuse r _ _
  · exact h.answer
  · exact h.answer

theorem trunkFrameStart (h : s.SessionLawful) (stamp : Word32) : (s.trunkFrameStart stamp).SessionLawful :=
  (h.allocate trunkIngress stamp).outer _ _ _ _

theorem recordOutcome (h : s.SessionLawful) (m : HealthMark) : (s.endAttempt.recordOutcome m).SessionLawful := h

theorem followWinner (h : s.SessionLawful) : s.endAttempt.followWinner.SessionLawful :=
  ite (trunkFrameStart (s := s.endAttempt) h _) h

/-! ## Requests -/

theorem modIngresses (h : s.SessionLawful) (f : Ingress → Ingress) : (s.modIngresses f).SessionLawful := by
  rw [State.modIngresses_eq]
  exact h

theorem runStatus (h : s.SessionLawful) (r : Request) : (s.runStatus r).SessionLawful := by
  unfold State.runStatus
  split
  · refine h.afterCheck r fun subject => ?_
    cases subject with
    | none => exact h.answer
    | some i => exact answer h
  · exact h

theorem runStart (h : s.SessionLawful) (r : Request) : (s.runStart r).SessionLawful :=
  h.afterCheck r fun _ => answer h

theorem runReset (h : s.SessionLawful) (r : Request) : (s.runReset r).SessionLawful := h.answer

theorem runSetTap (h : s.SessionLawful) (r : Request) : (s.runSetTap r).SessionLawful := by
  unfold State.runSetTap
  split
  · exact h.afterCheck r fun (_, _, _) => answer h
  · exact h

theorem runOpenTap (h : s.SessionLawful) (r : Request) : (s.runOpenTap r).SessionLawful := by
  unfold State.runOpenTap
  split
  · exact h.afterCheck r fun _ => answer h
  · exact h

theorem runCloseTap (h : s.SessionLawful) (r : Request) : (s.runCloseTap r).SessionLawful := by
  unfold State.runCloseTap
  split
  · exact h.afterCheck r (h.closeTap r)
  · exact h

theorem runSetQuota (h : s.SessionLawful) (r : Request) : (s.runSetQuota r).SessionLawful := by
  unfold State.runSetQuota
  split
  · exact h.afterCheck r fun (_, _) => answer h
  · exact h

theorem runSetWindow (h : s.SessionLawful) (r : Request) : (s.runSetWindow r).SessionLawful :=
  h.afterCheck r fun (_, _, _) => answer h

theorem runSetDefault (h : s.SessionLawful) (r : Request) : (s.runSetDefault r).SessionLawful := by
  unfold State.runSetDefault
  split
  · exact h.afterCheck r fun (_, _) => answer h
  · exact h

theorem runReadWindow (h : s.SessionLawful) (r : Request) : (s.runReadWindow r).SessionLawful := by
  unfold State.runReadWindow
  split
  · exact h.afterCheck r fun _ => answer h
  · exact h

theorem runCommit (h : s.SessionLawful) (r : Request) : (s.runCommit r).SessionLawful := by
  unfold State.runCommit
  split
  · refine h.afterCheck r fun ingress => ?_
    cases ingress with
    | none => exact (h.modIngresses _).answer
    | some i => exact answer h
  · exact h

theorem runDiscardStaged (h : s.SessionLawful) (r : Request) : (s.runDiscardStaged r).SessionLawful := by
  unfold State.runDiscardStaged
  split
  · refine h.afterCheck r fun ingress => ?_
    cases ingress with
    | none => exact (h.modIngresses _).answer
    | some i => exact answer h
  · exact h

theorem runSetRelay (h : s.SessionLawful) (r : Request) : (s.runSetRelay r).SessionLawful := by
  unfold State.runSetRelay
  split
  · exact h.afterCheck r fun (_, _) => answer h
  · exact h

theorem setGate (h : s.SessionLawful) (r : Request) (gate : Gate) : (s.setGate r gate).SessionLawful := answer h

theorem runFlushRelay (h : s.SessionLawful) (r : Request) : (s.runFlushRelay r).SessionLawful := answer h

theorem runSend (h : s.SessionLawful) (r : Request) : s.runSend r = .next t → t.SessionLawful := by
  unfold State.runSend
  split
  · split
    · exact of_next (h.refuse r _ _)
    · unfold State.sendFrame
      split
      · exact nofun
      · exact of_next (answer h)
  · exact of_next h

theorem runCancel (h : s.SessionLawful) (r : Request) : (s.runCancel r).SessionLawful := by
  unfold State.runCancel
  split
  · refine h.afterCheck r fun e => ?_
    unfold State.cancelEntry
    split
    · exact answer h
    · exact answer h
    · exact h.refuse r _ _
    · exact h.refuse r _ _
  · exact h

theorem runSetTrunk (h : s.SessionLawful) (r : Request) : (s.runSetTrunk r).SessionLawful := by
  unfold State.runSetTrunk
  split
  · exact h.afterCheck r fun (_, _) => answer h
  · exact h

theorem runAttach (h : s.SessionLawful) (r : Request) : (s.runAttach r).SessionLawful :=
  h.afterCheck r fun _ => answer h

theorem runDetach (h : s.SessionLawful) (r : Request) : (s.runDetach r).SessionLawful := by
  unfold State.runDetach
  split
  · exact h.answer
  split
  · exact detachIfIdle h
  split
  · exact h.refuse r _ _
  · exact h

theorem runResume (h : s.SessionLawful) (r : Request) : (s.runResume r).SessionLawful :=
  h.afterCheck r fun _ => answer h

theorem runAck (h : s.SessionLawful) (r : Request) : (s.runAck r).SessionLawful := by
  unfold State.runAck
  split
  · exact h.afterCheck r fun (_, _) => answer h
  · exact h

theorem runResend (h : s.SessionLawful) (r : Request) : (s.runResend r).SessionLawful := answer h

theorem runDiscardCaptures (h : s.SessionLawful) (r : Request) : (s.runDiscardCaptures r).SessionLawful := answer h

/-! ## Line events and completions -/

theorem tapEndOfFrame (h : s.SessionLawful) (k : TapNo) (bits : List Level) :
    Machine.exec (.tapEndOfFrame k bits) s = .next t → t.SessionLawful := by
  refine of_next ?_
  split
  · split
    · exact (h.endFrame _ _ _).listenFrameEnd k _
    · exact (h.endFrame _ _ _).closingFrameEnd k
    · exact h
    · exact h
  · exact h

theorem trunkEndOfFrame (h : s.SessionLawful) (bits : List Level) :
    Machine.exec (.trunkEndOfFrame bits) s = .next t → t.SessionLawful := by
  refine of_next ?_
  split
  · next p verdict _ _ => exact ((h.endFrame trunkIngress p verdict).outer _ _ _ _).detachIfIdle
  · exact h

theorem transmitOpportunity (h : s.SessionLawful) : Machine.exec .transmitOpportunity s = .next t → t.SessionLawful := by
  refine of_next (ite ?_ h)
  split <;> exact h

theorem outcomeSent (h : s.SessionLawful) (read : List Level) :
    Machine.exec (.outcomeSent read) s = .next t → t.SessionLawful := by
  refine of_next ?_
  split
  · exact h
  · next c _ => exact ite ((h.applySent c).recordOutcome .sent).detachIfIdle h

theorem outcomeLost (h : s.SessionLawful) (read : List Level) :
    Machine.exec (.outcomeLost read) s = .next t → t.SessionLawful := by
  refine of_next ?_
  split
  · exact h
  · next c _ => exact ite (h.applyLost c).followWinner.detachIfIdle h

theorem outcomeFault (h : s.SessionLawful) (read : List Level) :
    Machine.exec (.outcomeFault read) s = .next t → t.SessionLawful := by
  refine of_next ?_
  split
  · exact h
  · next c _ => exact ite ((h.applyFault c).recordOutcome .fault).detachIfIdle h

/-- A notice that starts leaves W, whatever it takes from the queues (R144). -/
theorem outboundChoice (h : s.SessionLawful) : Machine.exec .outboundChoice s = .next t → t.SessionLawful := by
  have hcapture : s.startCapture.SessionLawful := by
    refine ite ?_ h
    split <;> exact h
  have hnotice : s.startNotice.SessionLawful := by
    unfold State.startNotice
    split
    · exact h
    · exact h
    · exact hcapture
  refine of_next (ite ?_ h)
  split
  · exact h
  · exact ite hnotice h

theorem replyCompleted (h : s.SessionLawful) (br1 br0 : Bool) :
    Machine.exec (.replyCompleted br1 br0) s = .next t → t.SessionLawful := by
  refine of_next (ite ?_ h)
  split
  · exact ite (of_closed rfl rfl rfl rfl) h
  · exact h

theorem txDoneCompleted (h : s.SessionLawful) : Machine.exec .txDoneCompleted s = .next t → t.SessionLawful := by
  refine of_next (ite ?_ h)
  split <;> exact h

/-! ## Every command -/

theorem send (h : s.SessionLawful) : Machine.exec .send s = .next t → t.SessionLawful := by
  rcases s.takeRequest_cases (some .send) with hnone | ⟨r, rest, hr, -, htake⟩
  · simp only [Machine.exec, execSend, hnone]
    exact of_next h
  · simp only [Machine.exec, execSend, htake]
    exact (h.taken hr).runSend r

/-- Every command keeps the laws of the session. -/
theorem exec (h : s.SessionLawful) {c : Instr} : Machine.exec c s = .next t → t.SessionLawful := by
  cases c with
  | powerReset br1 br0 => exact of_next (of_closed rfl rfl rfl rfl)
  | memoryCheckCompleted correct => exact of_next (ite h h)
  | tapStartOfFrame k => exact of_next (ite ((h.allocate (tapIngress k) s.stamp).outer _ _ _ _) h)
  | tapEndOfFrame k bits => exact h.tapEndOfFrame k bits
  | tapIdleGap k => exact of_next (ite (h.changeTap k _ _) h)
  | tapResynchronised k => exact of_next (ite (h.outer _ _ _ _) h)
  | trunkStartOfFrame => exact of_next (ite (h.trunkFrameStart _) h)
  | trunkEndOfFrame bits => exact h.trunkEndOfFrame bits
  | trunkJoinIdleGap => exact of_next (ite ((h.outer _ _ _ _).storeEvent _) h)
  | trunkReceiverResync => exact of_next (ite (h.outer _ _ _ _) h)
  | transmitOpportunity => exact h.transmitOpportunity
  | outcomeSent read => exact h.outcomeSent read
  | outcomeLost read => exact h.outcomeLost read
  | outcomeFault read => exact h.outcomeFault read
  | framingError => exact of_next (ite h (h.takeHunt _))
  | badLength len => exact of_next (ite (h.takeHunt _) h)
  | gapExpiry => exact of_next (ite h (h.takeHunt _))
  | messageReceived low => exact of_next (ite (h.takeHunt _) h)
  | byteReceived byte => exact of_next (ite h (h.takeHunt _))
  | lineBreak => exact h.lineBreak
  | outboundChoice => exact h.outboundChoice
  | replyCompleted br1 br0 => exact h.replyCompleted br1 br0
  | captureCompleted => exact of_next (ite h h)
  | txDoneCompleted => exact h.txDoneCompleted
  | eventCompleted => exact of_next (ite h h)
  | badRequest => exact of_next (h.serve fun r _ hu => hu.refuse r _ _)
  | hello => exact of_next (h.serve fun r u _ => runHello u r)
  | status => exact of_next (h.serve fun r _ hu => hu.runStatus r)
  | start => exact of_next (h.serve fun r _ hu => hu.runStart r)
  | stop => exact of_next (h.serve fun r _ hu => hu.runStop r)
  | reset => exact of_next (h.serve fun r _ hu => hu.runReset r)
  | setTap => exact of_next (h.serve fun r _ hu => hu.runSetTap r)
  | openTap => exact of_next (h.serve fun r _ hu => hu.runOpenTap r)
  | closeTap => exact of_next (h.serve fun r _ hu => hu.runCloseTap r)
  | setQuota => exact of_next (h.serve fun r _ hu => hu.runSetQuota r)
  | setWindow => exact of_next (h.serve fun r _ hu => hu.runSetWindow r)
  | setDefault => exact of_next (h.serve fun r _ hu => hu.runSetDefault r)
  | readWindow => exact of_next (h.serve fun r _ hu => hu.runReadWindow r)
  | commit => exact of_next (h.serve fun r _ hu => hu.runCommit r)
  | discardStaged => exact of_next (h.serve fun r _ hu => hu.runDiscardStaged r)
  | setRelay => exact of_next (h.serve fun r _ hu => hu.runSetRelay r)
  | holdRelay => exact of_next (h.serve fun r _ hu => hu.setGate r _)
  | releaseRelay => exact of_next (h.serve fun r _ hu => hu.setGate r _)
  | flushRelay => exact of_next (h.serve fun r _ hu => hu.runFlushRelay r)
  | send => exact h.send
  | cancel => exact of_next (h.serve fun r _ hu => hu.runCancel r)
  | setTrunk => exact of_next (h.serve fun r _ hu => hu.runSetTrunk r)
  | attach => exact of_next (h.serve fun r _ hu => hu.runAttach r)
  | detach => exact of_next (h.serve fun r _ hu => hu.runDetach r)
  | resume => exact of_next (h.serve fun r _ hu => hu.runResume r)
  | grant => exact of_next h.grant
  | ack => exact of_next (h.serve fun r _ hu => hu.runAck r)
  | resend => exact of_next (h.serve fun r _ hu => hu.runResend r)
  | discardCaptures => exact of_next (h.serve fun r _ hu => hu.runDiscardCaptures r)

end State.SessionLawful

/-- Settles O12: a microsecond leaves the session, and every command keeps its laws (`State.SessionLawful.exec`). -/
theorem stepKeepsSessionLawful : Obligations.StepKeepsSessionLawful := by
  intro s t h hstep
  cases hp : s.pending with
  | nil =>
    rw [step_empty hp] at hstep
    exact of_next (u := s.tick) h hstep
  | cons c rest =>
    rw [step, hp] at hstep
    exact State.SessionLawful.exec (s := { s with pending := rest }) h hstep

end Sys2Proof.Machine
end

section
/-! SUPPORT. The records for the host: an event stored and a loss counted (R25, R77, R174, R175, R178), and the requests GRANT, ACK,
RESEND and DISCARD_CAPTURES over the delivery queue (R166, R169, R170, R171). -/

namespace Sys2Proof.Machine

/-! ## Events and losses -/

/-- The lost count goes up by one and stops at 65535 (R175). -/
theorem stopSucc_word16_toNat (x : Word16) : (stopSucc x).toNat = min 65535 (x.toNat + 1) := by
  rw [stopSucc_word16]
  split
  · next hlast => rw [hlast]; rfl
  · next hless => bv_omega

/-- Settles O16: an event by whether it finds room (`EventQueue.push_room`, `EventQueue.push_full`), a loss by its reason. -/
theorem eventsAndLossesRecorded : Obligations.EventsAndLossesRecorded := by
  refine ⟨fun q info stamp => ⟨EventQueue.push_room info stamp, fun hfull => ?_⟩, fun s i reason => ?_⟩
  · rw [EventQueue.push_full info stamp hfull]
    exact ⟨rfl, rfl, stopSucc_word16_toNat q.lost⟩
  · cases reason <;> rfl

/-! ## What the replies say of the delivery queue -/

theorem Delivery.sentCount_eq (d : Delivery) : d.sentCount = (d.queue.filter fun e => e.state = .sent).length :=
  List.countP_eq_length_filter

/-- A SENDING capture carries the mark (R170, R171). -/
theorem Delivery.marked_iff (d : Delivery) (mark : CompletionMark) :
    d.marked mark = true ↔ ∃ e ∈ d.queue, e.state = .sending ∧ e.mark = mark := by
  simp [Delivery.marked]

theorem flagByte_eq_ite {b : Bool} {p : Prop} [Decidable p] (h : b = true ↔ p) : flagByte b = if p then 0x01#8 else 0x00#8 :=
  if_congr h rfl rfl

/-! ## ACK -/

/-- No SENT capture carries the number (R169). -/
theorem splitAtSent_none {n : Word16} {queue : List DeliveryEntry} (h : ∀ e ∈ queue, ¬ (e.state = .sent ∧ e.number = n)) :
    splitAtSent n queue = none := by
  induction queue with
  | nil => rfl
  | cons e es ih =>
    obtain ⟨he, hes⟩ := List.forall_mem_cons.mp h
    rw [splitAtSent, if_neg he, ih hes, Option.map_none]

/-- The queue is cut behind the first SENT capture that carries the number (R169). -/
theorem splitAtSent_first {n : Word16} {before behind : List DeliveryEntry} {e : DeliveryEntry}
    (hbefore : ∀ x ∈ before, ¬ (x.state = .sent ∧ x.number = n)) (he : e.state = .sent ∧ e.number = n) :
    splitAtSent n (before ++ e :: behind) = some (before ++ [e], behind) := by
  induction before with
  | nil => exact if_pos he
  | cons x xs ih =>
    obtain ⟨hx, hxs⟩ := List.forall_mem_cons.mp hbefore
    rw [List.cons_append, splitAtSent, if_neg hx, ih hxs]
    rfl

/-! ## RESEND and DISCARD_CAPTURES -/

/-- A returned capture carries RETURN when it is SENDING and was not to be removed (R170). -/
theorem DeliveryEntry.returned_toReturn_iff (e : DeliveryEntry) :
    e.returned.state = .sending ∧ e.returned.mark = .toReturn ↔ e.state = .sending ∧ e.mark ≠ .toRemove := by
  rcases e with ⟨slot, number, _ | _ | _, _ | _ | _⟩ <;> simp [DeliveryEntry.returned]

theorem Delivery.marked_toReturn_iff (d : Delivery) :
    Delivery.marked { d with queue := d.queue.map DeliveryEntry.returned } .toReturn = true ↔
      ∃ e ∈ d.queue, e.state = .sending ∧ e.mark ≠ .toRemove := by
  simp only [Delivery.marked_iff, List.mem_map, exists_exists_and_eq_and, DeliveryEntry.returned_toReturn_iff]

/-- After a DISCARD_CAPTURES a mark REMOVE stands exactly if a capture is left (R171). -/
theorem Delivery.marked_toRemove_iff (d : Delivery) :
    Delivery.marked { d with queue :=
        (d.queue.filter fun e => e.state = .sending).map fun e => { e with mark := .toRemove } } .toRemove = true ↔
      (d.queue.filter fun e => e.state = .sending) ≠ [] := by
  simp [Delivery.marked_iff]

/-! ## The requests -/

section
variable {s : State} {r : Request} {rest : List Request} {b1 b2 : Byte}

/-- GRANT: refused where W would be above 16, or exactly W is set (R166). -/
theorem execGrant_checked (hr : s.Ready r rest) (hb : r.body = [0x50#8, b1]) :
    (17 ≤ b1.toNat → exec .grant s = .next (s.replied r rest .badValue 1 [])) ∧
      (b1.toNat ≤ 16 → exec .grant s = .next (State.replied
        { s with delivery := { s.delivery with window := b1.toNat } } r rest .ok 0 [b1, byteOf s.delivery.outstanding])) := by
  obtain ⟨hrefused, haccepted⟩ := State.serve_checked (act := fun r s => s.runGrant r)
    (check := needField 1 (numberIn 0 16 b1))
    (go := fun window => State.answer { s.taken rest with delivery := { s.delivery with window := window } } r .ok 0
      [byteOf window, byteOf s.delivery.outstanding])
    hr (hb ▸ requestOf_grant b1) (by simp only [State.runGrant, hb])
  refine ⟨fun hover => congrArg _ (hrefused _ _ ?_), fun hfits => ?_⟩
  · rw [numberIn_none (.inr hover), needField_none]
  · have hok : needField 1 (numberIn 0 16 b1) = .ok b1.toNat := by
      rw [numberIn_of (Nat.zero_le _) hfits, needField_some]
    refine congrArg Host.Outcome.next ((haccepted _ hok).trans ((State.answer_eq _ r .ok 0 _).trans ?_))
    rw [byteOf_toNat]
    rfl

/-- ACK: refused where no SENT capture carries the number, or exactly the queue is cut and the slots are left (R169). -/
theorem execAck_checked (hr : s.Ready r rest) (hb : r.body = [0x51#8, b1, b2]) :
    (splitAtSent (word16Of b1 b2) s.delivery.queue = none → exec .ack s = .next (s.replied r rest .badValue 1 [])) ∧
      ∀ removed left, splitAtSent (word16Of b1 b2) s.delivery.queue = some (removed, left) →
        exec .ack s = .next (State.replied
          { s with
            delivery := { s.delivery with queue := left }
            store := s.store.leaveAll .delivery (removed.map DeliveryEntry.slot) }
          r rest .ok 0 [b1, b2, byteOf removed.length, byteOf left.length]) := by
  obtain ⟨hrefused, haccepted⟩ := State.serve_checked (act := fun r s => s.runAck r)
    (check := needField 1 (splitAtSent (word16Of b1 b2) s.delivery.queue))
    (go := fun (removed, left) => State.answer
      { s.taken rest with
        delivery := { s.delivery with queue := left }
        store := s.store.leaveAll .delivery (removed.map DeliveryEntry.slot) }
      r .ok 0 [b1, b2, byteOf removed.length, byteOf left.length])
    hr (hb ▸ requestOf_ack b1 b2) (by simp only [State.runAck, hb])
  refine ⟨fun hnone => congrArg _ (hrefused _ _ ?_), fun removed left hcut => ?_⟩
  · rw [hnone, needField_none]
  · have hok : needField 1 (splitAtSent (word16Of b1 b2) s.delivery.queue) = .ok (removed, left) := by
      rw [hcut, needField_some]
    exact congrArg Host.Outcome.next ((haccepted _ hok).trans (State.answer_eq _ r .ok 0 _))

/-- RESEND: every capture is returned (R170). -/
theorem execResend_eq (hr : s.Ready r rest) (hb : r.body = [0x52#8]) :
    exec .resend s = .next (State.replied
      { s with delivery := { s.delivery with queue := s.delivery.queue.map DeliveryEntry.returned } } r rest .ok 0
      [byteOf s.delivery.sentCount,
        flagByte (Delivery.marked { s.delivery with queue := s.delivery.queue.map DeliveryEntry.returned } .toReturn)]) := by
  rw [exec, execResend, State.serve_ready _ hr (hb ▸ requestOf_resend)]
  exact congrArg Host.Outcome.next (State.answer_eq _ r .ok 0 _)

/-- DISCARD_CAPTURES: the SENDING capture alone is kept, marked REMOVE (R171). -/
theorem execDiscardCaptures_eq (hr : s.Ready r rest) (hb : r.body = [0x53#8]) {removed kept : List DeliveryEntry}
    (hremoved : (s.delivery.queue.filter fun e => e.state ≠ .sending) = removed)
    (hkept : ((s.delivery.queue.filter fun e => e.state = .sending).map fun e => { e with mark := .toRemove }) = kept) :
    exec .discardCaptures s = .next (State.replied
      { s with
        delivery := { s.delivery with queue := kept }
        store := s.store.leaveAll .delivery (removed.map DeliveryEntry.slot) }
      r rest .ok 0 [byteOf removed.length, flagByte (Delivery.marked { s.delivery with queue := kept } .toRemove)]) := by
  subst hremoved hkept
  rw [exec, execDiscardCaptures, State.serve_ready _ hr (hb ▸ requestOf_discardCaptures)]
  exact congrArg Host.Outcome.next (State.answer_eq _ r .ok 0 _)

end

/-- Settles O60, request by request: W against its bound, the number of an ACK against the SENT captures, and the captures that RESEND
and DISCARD_CAPTURES mark. -/
theorem capturesGrantedAckedReturned : Obligations.CapturesGrantedAckedReturned := by
  intro s r rest b1 b2 hr
  refine ⟨fun hb => ?_, fun hb => ?_, fun hb => ?_, fun hb => ?_⟩
  · obtain ⟨hrefused, hset⟩ := execGrant_checked hr hb
    refine ⟨hrefused, fun hfits => ?_⟩
    rw [hset hfits, Delivery.outstanding_eq, byteOf]
  · obtain ⟨hrefused, hcut⟩ := execAck_checked hr hb
    refine ⟨fun hnone => hrefused (splitAtSent_none hnone), fun before e behind hqueue hsent hnumber hbefore => ?_⟩
    have hfirst : splitAtSent (word16Of b1 b2) s.delivery.queue = some (before ++ [e], behind) :=
      hqueue ▸ splitAtSent_first hbefore ⟨hsent, hnumber⟩
    rw [hcut _ _ hfirst, List.length_append, List.length_singleton, byteOf, byteOf]
  · rw [execResend_eq hr hb, Delivery.sentCount_eq, flagByte_eq_ite s.delivery.marked_toReturn_iff,
      funext DeliveryEntry.returned_eq, byteOf]
  · have hflag : flagByte (Delivery.marked { s.delivery with queue :=
          (s.delivery.queue.filter fun e => e.state = .sending).map fun e => { e with mark := .toRemove } } .toRemove) =
        if (s.delivery.queue.filter fun e => e.state = .sending) = [] then 0x00#8 else 0x01#8 := by
      rw [flagByte_eq_ite s.delivery.marked_toRemove_iff, ite_not]
    rw [execDiscardCaptures_eq hr hb rfl rfl, hflag, byteOf]

end Sys2Proof.Machine
end

section
/-! SUPPORT. The delivery unit, which is the event queue, the delivery queue and whether a CAPTURE notice is on HTX: the moves it can
make, and the laws of the event numbers (R174) and of the captures (R164, R166), which each of them keeps. -/

namespace Sys2Proof.Machine

/-! ## The moves -/

/-- The event queue, the delivery queue with W, and whether a CAPTURE notice is on HTX. -/
structure DeliveryUnit where
  events : EventQueue
  delivery : Delivery
  capturing : Bool

/-- The delivery unit of the part. -/
def State.deliveryUnit (s : State) : DeliveryUnit where
  events := s.events
  delivery := s.delivery
  capturing := s.sends .capture

namespace DeliveryUnit

/-- What can happen in the delivery unit. -/
inductive Move : DeliveryUnit → DeliveryUnit → Prop where
  /-- A reset (R181). -/
  | reset (d : DeliveryUnit) : Move d ⟨.initial, .initial, false⟩
  /-- An event is stored or counted as lost (R174, R175). -/
  | event (d : DeliveryUnit) (info : EventInfo) (stamp : Word32) : Move d { d with events := d.events.push info stamp }
  /-- An EVENT notice takes the lost count (R176). -/
  | lostTaken (d : DeliveryUnit) : Move d { d with events := { d.events with lost := 0 } }
  /-- The oldest event record leaves (R176). -/
  | eventLeaves (d : DeliveryUnit) : Move d { d with events := { d.events with queue := d.events.queue.tail } }
  /-- W is set within its range (R166, R172). -/
  | window (d : DeliveryUnit) {w : Nat} (hw : w ≤ 16) : Move d { d with delivery := { d.delivery with window := w } }
  /-- A capture joins as WAITING (R74, R165). -/
  | captured (d : DeliveryUnit) (n : SlotNo) :
    Move d { d with delivery := { d.delivery with
      queue := d.delivery.queue ++ [⟨n, d.delivery.nextNumber, .waiting, .none⟩]
      nextNumber := d.delivery.nextNumber + 1 } }
  /-- The captures are returned (R170, R172). -/
  | returned (d : DeliveryUnit) :
    Move d { d with delivery := { d.delivery with queue := d.delivery.queue.map DeliveryEntry.returned } }
  /-- The captures up to a SENT one are acknowledged (R169). -/
  | acked (d : DeliveryUnit) {number : Word16} {removed left : List DeliveryEntry}
      (hcut : splitAtSent number d.delivery.queue = some (removed, left)) :
    Move d { d with delivery := { d.delivery with queue := left } }
  /-- The captures are discarded but for the one on HTX (R171). -/
  | discarded (d : DeliveryUnit) :
    Move d { d with delivery := { d.delivery with
      queue := (d.delivery.queue.filter fun e => e.state = .sending).map fun e => { e with mark := .toRemove } } }
  /-- The first WAITING capture goes on HTX, while W lets one (R166, R167). -/
  | started (d : DeliveryUnit) {e : DeliveryEntry} {queue : List DeliveryEntry} (hidle : d.capturing = false)
      (hroom : d.delivery.outstanding < d.delivery.window) (hfirst : startFirstWaiting d.delivery.queue = some (e, queue)) :
    Move d { d with delivery := { d.delivery with queue := queue }, capturing := true }
  /-- The capture on HTX completes (R168). -/
  | completed (d : DeliveryUnit) :
    Move d { d with
      delivery := { d.delivery with
        queue := (d.delivery.queue.filter fun e => !e.leavesAtCompletion).map DeliveryEntry.completed }
      capturing := false }

/-- W is at most 16, and the law of the delivery queue holds (R164, R166). -/
structure Ordered (d : DeliveryUnit) : Prop where
  window : d.delivery.window ≤ 16
  captures : CapturesOrdered d.delivery.queue d.capturing

variable {d d' : DeliveryUnit}

/-- Only an event that is stored, the oldest one that leaves and a reset touch the numbers (R174). -/
theorem Move.consecutive (hm : Move d d') (h : d.events.Consecutive) : d'.events.Consecutive := by
  cases hm with
  | reset => rfl
  | event info stamp => exact h.push info stamp
  | eventLeaves => exact h.tail
  | lostTaken | window | captured | returned | acked | discarded | started | completed => exact h

/-- Every move keeps the captures in order (R164, R166). -/
theorem Move.ordered (hm : Move d d') (h : d.Ordered) : d'.Ordered := by
  obtain ⟨hwindow, hcaptures⟩ := h
  cases hm with
  | reset => exact ⟨Nat.zero_le _, by simp [CapturesOrdered, Delivery.initial]⟩
  | event | lostTaken | eventLeaves => exact ⟨hwindow, hcaptures⟩
  | window hw => exact ⟨hw, hcaptures⟩
  | captured n => exact ⟨hwindow, hcaptures.append n _⟩
  | returned => exact ⟨hwindow, hcaptures.map_returned⟩
  | acked hcut =>
    obtain ⟨before, e, -, hqueue, he⟩ := splitAtSent_some hcut
    rw [hqueue] at hcaptures
    exact ⟨hwindow, hcaptures.acked he⟩
  | discarded => exact ⟨hwindow, hcaptures.discarded⟩
  | started hidle hroom hfirst =>
    obtain ⟨before, behind, hqueue, rfl, hbefore, he⟩ := startFirstWaiting_some hfirst
    have hless : d.delivery.outstanding < 16 := Nat.lt_of_lt_of_le hroom hwindow
    rw [Delivery.outstanding, hqueue] at hless
    rw [hidle, hqueue] at hcaptures
    exact ⟨hwindow, hcaptures.started hbefore he hless⟩
  | completed => exact ⟨hwindow, hcaptures.completed⟩

/-- What every move keeps holds after any number of moves. -/
theorem keeps {P : DeliveryUnit → Prop} (h : Relation.ReflTransGen Move d d')
    (hmove : ∀ {a b : DeliveryUnit}, Move a b → P a → P b) (hd : P d) : P d' := by
  induction h with
  | refl => exact hd
  | tail _ hm ih => exact hmove hm ih

end DeliveryUnit

/-- The delivery unit of the state comes from `d` by moves. -/
def DeliveryUnit.Reaches (d : DeliveryUnit) (s : State) : Prop :=
  Relation.ReflTransGen DeliveryUnit.Move d s.deliveryUnit

end Sys2Proof.Machine
end

section
/-! SUPPORT. Every command takes the delivery unit from move to move, and so a step keeps its laws. -/

namespace Sys2Proof.Machine

namespace DeliveryUnit.Reaches

variable {s t u : State} {d : DeliveryUnit}

theorem refl (s : State) : s.deliveryUnit.Reaches s := Relation.ReflTransGen.refl

/-- One move more. -/
theorem moved (h : d.Reaches s) (hm : DeliveryUnit.Move s.deliveryUnit t.deliveryUnit) : d.Reaches t := h.tail hm

theorem congr (h : d.Reaches s) (hevents : t.events = s.events) (hdelivery : t.delivery = s.delivery)
    (hhtx : t.line.htx = s.line.htx) : d.Reaches t := by
  have hunit : t.deliveryUnit = s.deliveryUnit := by
    simp only [State.deliveryUnit, State.sends, hevents, hdelivery, hhtx]
  unfold DeliveryUnit.Reaches
  rwa [hunit]

theorem ite {p : Prop} [Decidable p] (hu : p → d.Reaches u) (h : d.Reaches s) : d.Reaches (if p then u else s) := by
  split
  · next hp => exact hu hp
  · exact h

/-! ## Events -/

theorem storeEvent (h : d.Reaches s) (info : EventInfo) : d.Reaches (s.storeEvent info) :=
  h.moved (.event _ info s.stamp)

theorem storeEventUnless (h : d.Reaches s) (p : Prop) [Decidable p] (info : EventInfo) :
    d.Reaches { s with events := if p then s.events else s.events.push info s.stamp } := by
  split
  · exact h
  · exact h.storeEvent info

theorem countDrop (h : d.Reaches s) (i : IngressNo) (reason : DropReason) : d.Reaches (s.countDrop i reason) :=
  h.storeEventUnless _ _

theorem changeTap (h : d.Reaches s) (k : TapNo) (f : Tap → Tap) (change : TapChange) :
    d.Reaches (s.changeTap k f change) :=
  storeEvent (s := s.modTap k f) h _

theorem recordOutcome (h : d.Reaches s) (m : HealthMark) : d.Reaches (s.endAttempt.recordOutcome m) :=
  storeEventUnless (s := s.endAttempt) h _ _

/-! ## The end of a frame -/

theorem relayOffer (h : d.Reaches s) (i : IngressNo) (n : SlotNo) : d.Reaches (s.relayOffer i n).1 := by
  unfold State.relayOffer
  split
  · exact h
  · exact h.countDrop i .relayFull

/-- A capture joins the delivery queue, or the loss is counted (R74). -/
theorem deliveryOffer (h : d.Reaches s) (i : IngressNo) (n : SlotNo) : d.Reaches (s.deliveryOffer i n).1 := by
  unfold State.deliveryOffer
  split
  · exact h.moved (.captured _ n)
  · exact h.countDrop i .deliveryFull

theorem classify (h : d.Reaches s) (i : IngressNo) (n : SlotNo) (f : Frame) (record : SlotRecord) :
    d.Reaches (s.classify i n f record) := by
  have hoffered (offer : Bool) : d.Reaches (if offer then s.relayOffer i n else (s, false)).1 := by
    cases offer with
    | true => exact h.relayOffer i n
    | false => exact h
  have hdelivered {u : State} (hu : d.Reaches u) (offer : Bool) :
      d.Reaches (if offer then u.deliveryOffer i n else (u, false)).1 := by
    cases offer with
    | true => exact hu.deliveryOffer i n
    | false => exact hu
  have hcounted {u : State} (hu : d.Reaches u) (p : Prop) [Decidable p] :
      d.Reaches (if p then u.countWindowDrop i else u) :=
    ite (fun _ => hu) hu
  exact hcounted (hdelivered (hoffered _) _) _

theorem endFrame (h : d.Reaches s) (i : IngressNo) (p : InProgress) (verdict : Verdict) :
    d.Reaches (s.endFrame i p verdict) := by
  have hcounted (f : Ingress → Ingress) : d.Reaches (s.modIngress i f) := h
  have hinvalid (checkFault : Bool) : d.Reaches (s.endInvalidFrame i p checkFault) := by cases p <;> exact h
  cases verdict with
  | valid f =>
    cases p with
    | stored n stamp => exact (hcounted _).classify i n f _
    | unstored reason => exact (hcounted _).countDrop i _
  | invalidCheck => exact hinvalid true
  | invalidFormat found => exact hinvalid false

/-! ## Replies and requests -/

theorem produceReply (h : d.Reaches s) (check : Word16) (r : Reply) (current : Bool) :
    d.Reaches (s.produceReply check r current) :=
  h.congr (s.produceReply_events ..) (s.produceReply_delivery ..) (s.produceReply_htx ..)

theorem answer {r : Request} {x : Status} {detail : Byte} {result : List Byte} (h : d.Reaches s) :
    d.Reaches (s.answer r x detail result) :=
  h.produceReply _ _ _

theorem refuse {r : Request} {x : Status} {detail : Byte} (h : d.Reaches s) : d.Reaches (s.refuse r x detail) := h.answer

theorem afterCheck {α : Type} {check : Except Refused α} {go : α → State} (h : d.Reaches s) (r : Request)
    (hgo : ∀ a, check = .ok a → d.Reaches (go a)) : d.Reaches (s.afterCheck r check go) := by
  unfold State.afterCheck
  split
  · exact h.refuse
  · exact hgo _ rfl

theorem answerParked (h : d.Reaches s) (subject : ParkedSubject) (result : List Byte) :
    d.Reaches (s.answerParked subject result) := by
  unfold State.answerParked
  split
  · exact h
  · exact produceReply (s := { s with engine := { s.engine with
      parked := s.engine.parked.filter fun p => p.subject != subject } }) h _ _ _

theorem serve (h : d.Reaches s) {code : Option RequestCode} {act : Request → State → State}
    (hact : ∀ (r : Request) (u : State), d.Reaches u → d.Reaches (act r u)) : d.Reaches (s.serve code act) :=
  State.serve_cases h fun r rest _ _ => hact r (s.taken rest) h

theorem takeHunt (h : d.Reaches s) (r : HunterRun) : d.Reaches (s.takeHunt r) := by
  have hreply {u : State} (hu : d.Reaches u) (x : Reply) : d.Reaches (u.replyAtArrival x) := ite (fun _ => hu) hu
  have harrive {u : State} (hu : d.Reaches u) (q : Request) : d.Reaches (u.arrive q) := by
    unfold State.arrive
    split
    · exact hu
    split
    · exact hreply hu _
    split
    · exact hreply hu _
    · exact ite (fun _ => hreply hu _) hu
  have hfold (qs : List Request) (u : State) (hu : d.Reaches u) : d.Reaches (qs.foldl State.arrive u) := by
    induction qs generalizing u with
    | nil => exact hu
    | cons q qs ih => exact ih _ (harrive hu q)
  exact hfold r.accepted _ h

/-! ## The relay head, the host entries and the outcomes of an attempt -/

theorem allocate (h : d.Reaches s) (i : IngressNo) (stamp : Word32) : d.Reaches (s.allocate i stamp).1 := by
  rcases s.allocate_cases i stamp with ⟨_, heq⟩ | ⟨_, _, -, -, heq⟩ <;> rw [heq] <;> exact h

theorem trunkFrameStart (h : d.Reaches s) (stamp : Word32) : d.Reaches (s.trunkFrameStart stamp) :=
  h.allocate trunkIngress stamp

theorem removeHead (h : d.Reaches s) : d.Reaches s.removeHead :=
  h.congr s.removeHead_events s.removeHead_delivery (by rw [s.removeHead_line])

theorem abandonHead (h : d.Reaches s) (reason : AbandonReason) : d.Reaches (s.abandonHead reason) := by
  unfold State.abandonHead
  split
  · exact h
  · exact (h.storeEvent _).removeHead

theorem applySent (h : d.Reaches s) (c : Candidate) : d.Reaches (s.applySent c) := by
  cases c with
  | relayHead => exact h.removeHead
  | entry e => exact h

theorem applyLost (h : d.Reaches s) (c : Candidate) : d.Reaches (s.applyLost c) := by
  cases c with
  | relayHead => exact ite (fun _ => h.abandonHead _) h
  | entry e => exact ite (u := s.entryDone e _) (fun _ => h) h

theorem applyFault (h : d.Reaches s) (c : Candidate) : d.Reaches (s.applyFault c) := by
  cases c with
  | relayHead =>
    have hraised : d.Reaches s.raiseHeadAttempts := h
    exact ite (fun _ => hraised.abandonHead _) (ite (fun _ => hraised.abandonHead _) hraised)
  | entry e => exact ite (fun _ => h) (ite (fun _ => h) h)

theorem followWinner (h : d.Reaches s) : d.Reaches s.endAttempt.followWinner :=
  ite (fun _ => trunkFrameStart (s := s.endAttempt) h _) h

/-! ## STOP, reports and the completion of a detach -/

theorem completeStop (h : d.Reaches s) : d.Reaches s.completeStop := by
  have hemptied : d.Reaches s.relayEmptied := storeEvent (s := { s with
    store := s.store.leaveAll .relay s.relay.queue, relay := { s.relay with queue := [], head := none } }) h _
  have hstopped : d.Reaches s.relayEmptied.entriesStopped :=
    hemptied.congr (State.foldl_entryDone_events ..) (State.foldl_entryDone_delivery ..)
      (congrArg HostLine.htx (State.foldl_entryDone_line ..))
  have hidle : d.Reaches { s.relayEmptied.entriesStopped with
      relay := { s.relayEmptied.entriesStopped.relay with gate := .opened }, part := .config, stop := none } :=
    hstopped
  rw [State.completeStop_eq]
  exact (hidle.storeEvent _).answerParked .stop _

theorem report (h : d.Reaches s) (strike : StopRecord → StopRecord) : d.Reaches (s.report strike) := by
  have hmarked {u : State} (hu : d.Reaches u) : d.Reaches u.markOvertaken := ite (fun _ => hu) hu
  unfold State.report
  split
  · exact h
  · exact ite (fun _ => hmarked h.completeStop) h

theorem detachIfIdle (h : d.Reaches s) : d.Reaches s.detachIfIdle := by
  have hdetached := storeEvent (s := { s with trunk := s.trunk.detached }) h (.trunkState .detached 0)
  exact ite (fun _ => report (ite (fun _ => hdetached.answerParked .detach _) hdetached) _) h

theorem listenFrameEnd (h : d.Reaches s) (k : TapNo) (verdict : Verdict) : d.Reaches (s.listenFrameEnd k verdict) := by
  cases verdict with
  | valid f => exact h
  | invalidCheck => exact h.changeTap k _ _
  | invalidFormat found => exact h.changeTap k _ _

theorem closingFrameEnd (h : d.Reaches s) (k : TapNo) : d.Reaches (s.closingFrameEnd k) :=
  report (ite (fun _ => (h.changeTap k _ _).answerParked _ _) (h.changeTap k _ _)) _

theorem closeTap (h : d.Reaches s) (r : Request) (k : TapNo) : d.Reaches (s.closeTap r k) := by
  unfold State.closeTap
  split
  · exact h.answer
  · exact h.changeTap k _ _
  · exact ite (fun _ => h.refuse) h
  · exact (h.changeTap k _ _).answer.report _

theorem closeForStop (h : d.Reaches s) (k : TapNo) : d.Reaches (s.closeForStop k) := by
  unfold State.closeForStop
  split
  · exact h.report _
  · exact h.changeTap k _ _
  · exact h
  · exact (h.changeTap k _ _).report _

theorem runStop (h : d.Reaches s) (r : Request) : d.Reaches (s.runStop r) := by
  have hbegun : d.Reaches (s.stopBegun r) :=
    storeEvent (s := { s with part := .stopping, stop := some ⟨allTaps, true⟩ }) h _
  have hclosed (ks : List TapNo) (u : State) (hu : d.Reaches u) : d.Reaches (ks.foldl State.closeForStop u) := by
    induction ks generalizing u with
    | nil => exact hu
    | cons k ks ih => exact ih _ (hu.closeForStop k)
  have hcleared {u : State} (hu : d.Reaches u) : d.Reaches { u with engine := { u.engine with overtaken := none } } := hu
  have hdetached {u : State} (hu : d.Reaches u) : d.Reaches u.detachForStop :=
    ite (fun _ => hu.report _) (detachIfIdle (s := { u with trunk := { u.trunk with detachPending := true } }) hu)
  unfold State.runStop
  split
  · rw [State.beginStop_eq]
    exact hcleared (hdetached (hclosed allTaps _ hbegun))
  · exact h.refuse
  · exact h.answer
  · exact h.answer

theorem runDetach (h : d.Reaches s) (r : Request) : d.Reaches (s.runDetach r) := by
  unfold State.runDetach
  split
  · exact h.answer
  split
  · exact detachIfIdle h
  · exact ite (fun _ => h.refuse) h

/-! ## The session and the delivery queue -/

/-- A session end returns the captures and sets W to 0 (R172). -/
theorem endSession (h : d.Reaches s) : d.Reaches s.endSession := by
  have hreturned : d.Reaches { s with delivery :=
      { s.delivery with queue := s.delivery.queue.map DeliveryEntry.returned } } := h.moved (.returned _)
  exact hreturned.moved (.window _ (Nat.zero_le _))

theorem runHello (h : d.Reaches s) (r : Request) : d.Reaches (s.runHello r) := by
  have hended : d.Reaches (if s.engine.session = .opened then s.endSession else s) := ite (fun _ => h.endSession) h
  have hopened : d.Reaches s.sessionOpened := hended.moved (.window _ (Nat.zero_le _))
  rw [State.runHello_eq]
  exact hopened.answer

theorem runGrant (h : d.Reaches s) (r : Request) : d.Reaches (s.runGrant r) := by
  unfold State.runGrant
  split
  · refine h.afterCheck r fun window hc => ?_
    obtain ⟨-, -, hrange⟩ := numberIn_eq_some.mp (needField_eq_ok.mp hc)
    have hset : d.Reaches { s with delivery := { s.delivery with window := window } } := h.moved (.window _ hrange)
    exact hset.answer
  · exact h

theorem runAck (h : d.Reaches s) (r : Request) : d.Reaches (s.runAck r) := by
  unfold State.runAck
  split
  · refine h.afterCheck r fun (removed, left) hc => ?_
    have hacked : d.Reaches { s with
        delivery := { s.delivery with queue := left }
        store := s.store.leaveAll .delivery (removed.map DeliveryEntry.slot) } :=
      h.moved (.acked _ (needField_eq_ok.mp hc))
    exact hacked.answer
  · exact h

theorem runResend (h : d.Reaches s) (r : Request) : d.Reaches (s.runResend r) := by
  have hreturned : d.Reaches { s with delivery :=
      { s.delivery with queue := s.delivery.queue.map DeliveryEntry.returned } } := h.moved (.returned _)
  exact hreturned.answer

theorem runDiscardCaptures (h : d.Reaches s) (r : Request) : d.Reaches (s.runDiscardCaptures r) := by
  have hdiscarded : d.Reaches { s with
      delivery := { s.delivery with
        queue := (s.delivery.queue.filter fun e => e.state = .sending).map fun e => { e with mark := .toRemove } }
      store := s.store.leaveAll .delivery ((s.delivery.queue.filter fun e => e.state ≠ .sending).map DeliveryEntry.slot) } :=
    h.moved (.discarded _)
  exact hdiscarded.answer

/-! ## Messages on HTX -/

/-- HTX changes between messages of other classes than CAPTURE and none. -/
theorem htx (h : d.Reaches s) (hold : s.sends .capture = false) (hnew : t.sends .capture = false)
    (hevents : t.events = s.events) (hdelivery : t.delivery = s.delivery) : d.Reaches t := by
  have hunit : t.deliveryUnit = s.deliveryUnit := by simp only [State.deliveryUnit, hold, hnew, hevents, hdelivery]
  unfold DeliveryUnit.Reaches
  rwa [hunit]

theorem transmit (h : d.Reaches s) (hfree : s.line.htx = none) {kind : MessageClass} (hkind : kind ≠ .capture)
    (bytes : List Byte) : d.Reaches (s.transmit kind bytes) :=
  h.htx (State.not_sends_of_free hfree) (by simp [State.sends, State.transmit, hkind]) rfl rfl

theorem startCapture (h : d.Reaches s) (hfree : s.line.htx = none) : d.Reaches s.startCapture := by
  refine ite (fun hroom => ?_) h
  split
  · exact h
  · next hfirst => exact h.moved (.started _ (State.not_sends_of_free hfree) hroom hfirst)

theorem startNotice (h : d.Reaches s) (hfree : s.line.htx = none) : d.Reaches s.startNotice := by
  unfold State.startNotice
  split
  · exact h.transmit hfree (by decide) _
  · have htaken : d.Reaches { s with events := { s.events with lost := 0 } } := h.moved (.lostTaken _)
    exact htaken.transmit hfree (by decide) _
  · exact h.startCapture hfree

/-- A message of another class than CAPTURE completes. -/
theorem freeTransmitter (h : d.Reaches s) {kind : MessageClass} (hsends : s.sends kind = true) (hkind : kind ≠ .capture) :
    d.Reaches s.freeTransmitter :=
  h.htx (State.not_sends_capture hsends hkind) rfl rfl rfl

theorem outboundChoice (h : d.Reaches s) : Machine.exec .outboundChoice s = .next t → d.Reaches t := by
  refine of_next (ite (fun ⟨_, hfree⟩ => ?_) h)
  split
  · exact h.transmit hfree (by decide) _
  · exact ite (fun _ => h.startNotice hfree) h

theorem replyCompleted (h : d.Reaches s) (br1 br0 : Bool) :
    Machine.exec (.replyCompleted br1 br0) s = .next t → d.Reaches t := by
  refine of_next (ite (fun hsends => ?_) h)
  have hfree := h.freeTransmitter hsends (by decide)
  split
  · exact ite (fun _ => h.moved (.reset _)) hfree
  · exact hfree

theorem txDoneCompleted (h : d.Reaches s) : Machine.exec .txDoneCompleted s = .next t → d.Reaches t := by
  refine of_next (ite (fun hsends => ?_) h)
  have hfree := h.freeTransmitter hsends (by decide)
  split <;> exact hfree

theorem eventCompleted (h : d.Reaches s) : Machine.exec .eventCompleted s = .next t → d.Reaches t :=
  of_next (ite (fun hsends => (h.freeTransmitter hsends (by decide)).moved (.eventLeaves _)) h)

/-! ## Line events -/

theorem tapEndOfFrame (h : d.Reaches s) (k : TapNo) (bits : List Level) :
    Machine.exec (.tapEndOfFrame k bits) s = .next t → d.Reaches t := by
  refine of_next ?_
  split
  · split
    · exact (h.endFrame _ _ _).listenFrameEnd k _
    · exact (h.endFrame _ _ _).closingFrameEnd k
    · exact h
    · exact h
  · exact h

theorem trunkEndOfFrame (h : d.Reaches s) (bits : List Level) :
    Machine.exec (.trunkEndOfFrame bits) s = .next t → d.Reaches t := by
  refine of_next ?_
  split
  · next p verdict _ _ => exact detachIfIdle (h.endFrame trunkIngress p verdict)
  · exact h

theorem transmitOpportunity (h : d.Reaches s) : Machine.exec .transmitOpportunity s = .next t → d.Reaches t := by
  refine of_next (ite (fun _ => ?_) h)
  split <;> exact h

theorem outcomeSent (h : d.Reaches s) (read : List Level) :
    Machine.exec (.outcomeSent read) s = .next t → d.Reaches t := by
  refine of_next ?_
  split
  · exact h
  · next c _ => exact ite (fun _ => ((h.applySent c).recordOutcome .sent).detachIfIdle) h

theorem outcomeLost (h : d.Reaches s) (read : List Level) :
    Machine.exec (.outcomeLost read) s = .next t → d.Reaches t := by
  refine of_next ?_
  split
  · exact h
  · next c _ => exact ite (fun _ => (h.applyLost c).followWinner.detachIfIdle) h

theorem outcomeFault (h : d.Reaches s) (read : List Level) :
    Machine.exec (.outcomeFault read) s = .next t → d.Reaches t := by
  refine of_next ?_
  split
  · exact h
  · next c _ => exact ite (fun _ => ((h.applyFault c).recordOutcome .fault).detachIfIdle) h

/-! ## Requests over settings, tables, the relay block and the host entries -/

theorem modIngresses (h : d.Reaches s) (f : Ingress → Ingress) : d.Reaches (s.modIngresses f) := by
  rw [State.modIngresses_eq]
  exact h

/-- STATUS of the part, or of an ingress, whose latch it clears (R160). -/
theorem runStatus (h : d.Reaches s) (r : Request) : d.Reaches (s.runStatus r) := by
  unfold State.runStatus
  split
  · refine h.afterCheck r fun subject _ => ?_
    cases subject with
    | none => exact h.answer
    | some i => exact answer h
  · exact h

theorem runCommit (h : d.Reaches s) (r : Request) : d.Reaches (s.runCommit r) := by
  unfold State.runCommit
  split
  · refine h.afterCheck r fun ingress _ => ?_
    cases ingress with
    | none => exact (h.modIngresses _).answer
    | some i => exact answer h
  · exact h

theorem runDiscardStaged (h : d.Reaches s) (r : Request) : d.Reaches (s.runDiscardStaged r) := by
  unfold State.runDiscardStaged
  split
  · refine h.afterCheck r fun ingress _ => ?_
    cases ingress with
    | none => exact (h.modIngresses _).answer
    | some i => exact answer h
  · exact h

theorem runOpenTap (h : d.Reaches s) (r : Request) : d.Reaches (s.runOpenTap r) := by
  unfold State.runOpenTap
  split
  · exact h.afterCheck r fun k _ => (h.changeTap k _ _).answer
  · exact h

theorem runCloseTap (h : d.Reaches s) (r : Request) : d.Reaches (s.runCloseTap r) := by
  unfold State.runCloseTap
  split
  · exact h.afterCheck r fun k _ => h.closeTap r k
  · exact h

theorem runCancel (h : d.Reaches s) (r : Request) : d.Reaches (s.runCancel r) := by
  unfold State.runCancel
  split
  · refine h.afterCheck r fun e _ => ?_
    unfold State.cancelEntry
    split
    · exact answer h
    · exact answer h
    · exact h.refuse
    · exact h.refuse
  · exact h

theorem send (h : d.Reaches s) : Machine.exec .send s = .next t → d.Reaches t := by
  have hrun {u : State} (hu : d.Reaches u) (r : Request) : u.runSend r = .next t → d.Reaches t := by
    unfold State.runSend
    split
    · split
      · exact of_next hu.refuse
      · unfold State.sendFrame
        split
        · exact nofun
        · exact of_next (answer hu)
    · exact of_next hu
  rcases s.takeRequest_cases (some .send) with hnone | ⟨r, rest, -, -, htake⟩
  · simp only [Machine.exec, execSend, hnone]
    exact of_next h
  · simp only [Machine.exec, execSend, htake]
    exact hrun (u := s.taken rest) h r

/-- The requests that, their fields read and their checks passed, write settings alone or nothing. -/
theorem settings (h : d.Reaches s) {c : Instr}
    (hc : c ∈ [Instr.setTap, .setQuota, .setDefault, .readWindow, .setRelay, .setTrunk]) :
    Machine.exec c s = .next t → d.Reaches t := by
  simp only [List.mem_cons, List.not_mem_nil, or_false] at hc
  rcases hc with rfl | rfl | rfl | rfl | rfl | rfl
  all_goals
    refine of_next (h.serve fun r u hu => ?_)
    simp only [State.runSetTap, State.runSetQuota, State.runSetDefault, State.runReadWindow, State.runSetRelay,
      State.runSetTrunk]
    split
    · exact hu.afterCheck r fun _ _ => answer hu
    · exact hu

/-! ## Every command -/

/-- Every command takes the delivery unit from move to move. -/
theorem exec (h : d.Reaches s) {c : Instr} : Machine.exec c s = .next t → d.Reaches t := by
  cases c with
  | powerReset br1 br0 => exact of_next (h.moved (.reset _))
  | memoryCheckCompleted correct => exact of_next (ite (fun _ => storeEvent (s := { s with part := .config }) h _) h)
  | tapStartOfFrame k => exact of_next (ite (fun _ => h.allocate (tapIngress k) s.stamp) h)
  | tapEndOfFrame k bits => exact h.tapEndOfFrame k bits
  | tapIdleGap k => exact of_next (ite (fun _ => h.changeTap k _ _) h)
  | tapResynchronised k => exact of_next (ite (fun _ => h) h)
  | trunkStartOfFrame => exact of_next (ite (fun _ => h.trunkFrameStart _) h)
  | trunkEndOfFrame bits => exact h.trunkEndOfFrame bits
  | trunkJoinIdleGap => exact of_next (ite (fun _ => h.moved (.event _ _ _)) h)
  | trunkReceiverResync => exact of_next (ite (fun _ => h) h)
  | transmitOpportunity => exact h.transmitOpportunity
  | outcomeSent read => exact h.outcomeSent read
  | outcomeLost read => exact h.outcomeLost read
  | outcomeFault read => exact h.outcomeFault read
  | framingError | gapExpiry => exact of_next (ite (fun _ => h) (h.takeHunt _))
  | badLength | messageReceived => exact of_next (ite (fun _ => h.takeHunt _) h)
  | byteReceived byte => exact of_next (ite (fun _ => h) (h.takeHunt _))
  | lineBreak => exact of_next (ite (fun _ => h) (ite (fun _ => h.endSession) h))
  | outboundChoice => exact h.outboundChoice
  | replyCompleted br1 br0 => exact h.replyCompleted br1 br0
  | captureCompleted => exact of_next (ite (fun _ => h.moved (.completed _)) h)
  | txDoneCompleted => exact h.txDoneCompleted
  | eventCompleted => exact h.eventCompleted
  | badRequest => exact of_next (h.serve fun _ _ hu => hu.refuse)
  | hello => exact of_next (h.serve fun r _ hu => hu.runHello r)
  | status => exact of_next (h.serve fun r _ hu => hu.runStatus r)
  | start => exact of_next (h.serve fun r u hu => hu.afterCheck r fun _ _ =>
      (storeEvent (s := { u with part := .run }) hu _).answer)
  | stop => exact of_next (h.serve fun r _ hu => hu.runStop r)
  | reset => exact of_next (h.serve fun _ _ hu => hu.answer)
  | setTap | setQuota | setDefault | readWindow | setRelay | setTrunk => exact h.settings (by decide)
  | setWindow => exact of_next (h.serve fun r _ hu => hu.afterCheck r fun _ _ => answer hu)
  | openTap => exact of_next (h.serve fun r _ hu => hu.runOpenTap r)
  | closeTap => exact of_next (h.serve fun r _ hu => hu.runCloseTap r)
  | commit => exact of_next (h.serve fun r _ hu => hu.runCommit r)
  | discardStaged => exact of_next (h.serve fun r _ hu => hu.runDiscardStaged r)
  | holdRelay | releaseRelay | flushRelay => exact of_next (h.serve fun _ _ hu => answer hu)
  | send => exact h.send
  | cancel => exact of_next (h.serve fun r _ hu => hu.runCancel r)
  | attach | resume => exact of_next (h.serve fun r _ hu => hu.afterCheck r fun _ _ => answer (hu.moved (.event _ _ _)))
  | detach => exact of_next (h.serve fun r _ hu => hu.runDetach r)
  | grant => exact of_next (h.serve fun r _ hu => hu.runGrant r)
  | ack => exact of_next (h.serve fun r _ hu => hu.runAck r)
  | resend => exact of_next (h.serve fun r _ hu => hu.runResend r)
  | discardCaptures => exact of_next (h.serve fun r _ hu => hu.runDiscardCaptures r)

end DeliveryUnit.Reaches

/-- A step takes the delivery unit from move to move; a microsecond leaves it. -/
theorem step_reaches {s t : State} (hstep : step s = .next t) : s.deliveryUnit.Reaches t := by
  cases hp : s.pending with
  | nil =>
    rw [step_empty hp] at hstep
    exact of_next (u := s.tick) (DeliveryUnit.Reaches.refl s) hstep
  | cons c rest =>
    rw [step, hp] at hstep
    exact DeliveryUnit.Reaches.exec (s := { s with pending := rest }) (DeliveryUnit.Reaches.refl s) hstep

/-- Settles O9: every move of the delivery unit keeps the numbers consecutive (`DeliveryUnit.Move.consecutive`). -/
theorem stepKeepsEventNumbersConsecutive : Obligations.StepKeepsEventNumbersConsecutive := by
  intro s t h hstep
  exact DeliveryUnit.keeps (step_reaches hstep) (P := fun d => d.events.Consecutive) DeliveryUnit.Move.consecutive h

/-- Settles O11: every move of the delivery unit keeps the captures in order while W is in its range
(`DeliveryUnit.Move.ordered`). -/
theorem stepKeepsDeliveryLawful : Obligations.StepKeepsDeliveryLawful := by
  intro s t ⟨_, _, hwindow⟩ h hstep
  exact (DeliveryUnit.keeps (step_reaches hstep) DeliveryUnit.Move.ordered ⟨hwindow, h⟩).captures

end Sys2Proof.Machine
end

section
/-! SUPPORT. The operating states: the state after a soft reset (R192), the steps of a STOP that completes (R188), and the
reports that complete it (R187, R194). -/

namespace Sys2Proof.Machine

/-! ## The memory check and the soft reset -/

/-- Settles O14: in either case of the command's condition the state is the one named; the event it stores is one push. -/
theorem memoryCheckEntersConfig : Obligations.MemoryCheckEntersConfig := by
  intro s correct
  rw [exec, execMemoryCheckCompleted]
  by_cases h : s.part = .booting ∧ correct = true
  · rw [if_pos h, if_pos h]
    rfl
  · rw [if_neg h, if_neg h]

/-- The completion of a RESET reply is the soft reset (R191, R192). -/
theorem exec_replyCompleted_reset {s : State} {r : Reply} {rest : List Reply} {bytes : List Byte} (br1 br0 : Bool)
    (hhtx : s.line.htx = some ⟨.reply, bytes⟩) (hreplies : s.line.replies = r :: rest) (hr : r.isReset = true) :
    exec (.replyCompleted br1 br0) s = .next (s.softReset br1 br0) := by
  rw [exec, execReplyCompleted, if_pos (State.sends_of_htx hhtx), hreplies]
  exact congrArg _ (if_pos hr)

/-- Every ingress is reset on its own (R53, R81, R130). -/
theorem State.ingress_softReset (s : State) (br1 br0 : Bool) (i : IngressNo) :
    (s.softReset br1 br0).ingress i = (s.ingress i).softReset := by
  have hall : (s.softReset br1 br0).ingresses = (s.modIngresses Ingress.softReset).ingresses := rfl
  rw [State.ingress, hall]
  exact s.ingress_modIngresses _ i

/-- Settles O15: the completion is `State.softReset`, whose blocks are those of power-on but for the settings. -/
theorem resetReplyCompletionIsSoftReset : Obligations.ResetReplyCompletionIsSoftReset := by
  intro br1 br0 s r rest bytes hhtx hreplies hcode hstatus
  have hslot (n : SlotNo) : Store.initial.slot n = .free := get_replicate _ n
  have hrate : (s.softReset br1 br0).line = .initial (strapRate br1 br0) := rfl
  refine ⟨s.softReset br1 br0, exec_replyCompleted_reset br1 br0 hhtx hreplies (r.isReset_iff.mpr ⟨hcode, hstatus⟩),
    rfl, rfl, rfl, initialFreeList_eq, hslot, rfl, fun i => ⟨get_replicate _ i, s.ingress_softReset br1 br0 i⟩,
    fun k => get_replicate _ k, rfl, rfl, fun e => get_replicate _ e, rfl, rfl, rfl, ?_, rfl⟩
  rw [hrate, strapRate_eq]
  rfl

/-! ## Slots and records through the release of others -/

/-- The record of a slot is read from that slot alone. -/
theorem Store.record_congr {st st' : Store} {n : SlotNo} (h : st'.slot n = st.slot n) : st'.record n = st.record n := by
  rw [Store.record, Store.record, h]

theorem Store.slot_leaveAll_of_notMem (st : Store) (h : Holder) {ns : List SlotNo} {m : SlotNo} (hm : m ∉ ns) :
    (st.leaveAll h ns).slot m = st.slot m := by
  induction ns generalizing st with
  | nil => rfl
  | cons n ns ih =>
    obtain ⟨hmn, hm⟩ := List.ne_and_not_mem_of_not_mem_cons hm
    rw [Store.leaveAll_cons, ih _ hm, Store.slot_leave, if_neg hmn]

/-- The slot of a host entry is in no relay queue: it has the holder ENTRY alone (R16). -/
theorem Store.Fits.entry_notMem_relay {st : Store} {relay delivery : List SlotNo}
    {entries : Vector HostEntry Config.entryCount} {filling : IngressNo → Option SlotNo}
    (h : st.Fits relay delivery entries filling) {e : EntryNo} {n : SlotNo} (hn : (entries.get e).slot = some n) :
    n ∉ relay := by
  have hp := h.placed n
  have hholders := hp.hostHolders (hp.entry.mp ⟨e, hn⟩)
  rw [hp.relay, hholders]
  exact Bool.false_ne_true

/-! ## Entries that become DONE one after another -/

/-- The TX_DONE record of an entry that becomes DONE (R88). -/
def State.doneReport (s : State) (outcome : EntryOutcome) (e : EntryNo) : TxDone :=
  let record := ((s.entry e).slot.map s.store.record).getD .blank
  ⟨e, outcome, (s.entry e).attempts, record.tagOut, record.stamp⟩

/-- A state with the same entry and the same slot gives the same TX_DONE record. -/
theorem State.doneReport_congr {s u : State} {e : EntryNo} {n : SlotNo} (he : u.entry e = s.entry e)
    (hn : (s.entry e).slot = some n) (hslot : u.store.slot n = s.store.slot n) (outcome : EntryOutcome) :
    u.doneReport outcome e = s.doneReport outcome e := by
  simp only [State.doneReport, he, hn, Option.map_some, Option.getD_some, Store.record_congr hslot]

theorem State.entry_entryDone {s : State} {e : EntryNo} {n : SlotNo} (hn : (s.entry e).slot = some n)
    (outcome : EntryOutcome) (k : EntryNo) :
    (s.entryDone e outcome).entry k = if k = e then .finished (s.entry e).attempts outcome else s.entry k := by
  rw [State.entryDone_eq hn]
  split
  · next hk => rw [hk]; exact get_set_same _ _ _
  · next hk => exact get_set_other _ _ hk

/-- An entry with another slot reports as before (R88). -/
theorem State.doneReport_entryDone {s : State} {e k : EntryNo} {n m : SlotNo} (hn : (s.entry e).slot = some n)
    (hm : (s.entry k).slot = some m) (hmn : m ≠ n) (outcome : EntryOutcome) :
    (s.entryDone e outcome).doneReport outcome k = s.doneReport outcome k := by
  have hke : k ≠ e := fun h => hmn (Option.some.inj (hm.symm.trans (h ▸ hn)))
  refine State.doneReport_congr ((State.entry_entryDone hn outcome k).trans (if_neg hke)) hm ?_ outcome
  rw [State.entryDone_eq hn]
  exact (Store.slot_leave _ _ _ _).trans (if_neg hmn)

/-- Entries with slots of their own become DONE one after another: each reports as it stood and gives up its slot (R88). -/
theorem State.foldl_entryDone_eq {s : State} {es : List EntryNo} (outcome : EntryOutcome)
    (hslots : ∀ e ∈ es, ∃ n, (s.entry e).slot = some n)
    (hdistinct : es.Pairwise fun e k => (s.entry k).slot ≠ (s.entry e).slot) :
    es.foldl (fun s e => s.entryDone e outcome) s = { s with
      txDone := s.txDone ++ es.map (s.doneReport outcome)
      store := s.store.leaveAll .entry (es.filterMap fun e => (s.entry e).slot)
      entries := Vector.ofFn fun e => if e ∈ es then .finished (s.entry e).attempts outcome else s.entry e } := by
  induction es generalizing s with
  | nil =>
    have hsame : (Vector.ofFn fun e => s.entry e) = s.entries := by
      ext i hi
      simp [State.entry, Vector.get]
    simp [hsame, Store.leaveAll_nil]
  | cons e es ih =>
    obtain ⟨hhead, hdistinct⟩ := List.pairwise_cons.mp hdistinct
    obtain ⟨⟨n, hn⟩, hslots⟩ := List.forall_mem_cons.mp hslots
    have hkeep (k : EntryNo) (hk : k ∈ es) : (s.entryDone e outcome).entry k = s.entry k := by
      rw [State.entry_entryDone hn, if_neg fun hke => hhead k hk (by rw [hke])]
    have hreport (k : EntryNo) (hk : k ∈ es) :
        (s.entryDone e outcome).doneReport outcome k = s.doneReport outcome k := by
      obtain ⟨m, hm⟩ := hslots k hk
      exact State.doneReport_entryDone hn hm (fun h => hhead k hk (by rw [hm, hn, h])) outcome
    have hnames : (es.filterMap fun k => ((s.entryDone e outcome).entry k).slot) =
        es.filterMap fun k => (s.entry k).slot :=
      List.filterMap_congr fun k hk => by rw [hkeep k hk]
    have hentries (k : EntryNo) :
        (if k ∈ es then HostEntry.finished ((s.entryDone e outcome).entry k).attempts outcome
          else (s.entryDone e outcome).entry k) =
          if k ∈ e :: es then .finished (s.entry k).attempts outcome else s.entry k := by
      by_cases hk : k ∈ es
      · rw [if_pos hk, if_pos (List.mem_cons_of_mem e hk), hkeep k hk]
      · rw [if_neg hk, State.entry_entryDone hn]
        by_cases hke : k = e
        · simp [hke]
        · simp [hke, hk]
    have hdone := ih (s := s.entryDone e outcome) (fun k hk => by rw [hkeep k hk]; exact hslots k hk)
      (hdistinct.imp_of_mem fun hj hk hne => by rwa [hkeep _ hj, hkeep _ hk])
    rw [List.foldl_cons, hdone, hnames, List.map_congr_left hreport]
    simp only [hentries]
    simp only [State.entryDone_eq hn, List.map_cons, List.filterMap_cons, hn, Store.leaveAll_cons, List.append_assoc,
      List.singleton_append, State.doneReport, Option.map_some, Option.getD_some]

/-! ## STOP completes -/

section
variable {s : State}

/-- No two PENDING entries have one slot (R16). -/
theorem State.pendingEntries_distinct (h : s.StoreConsistent)
    (hslots : ∀ e ∈ s.pendingEntries, ∃ n, (s.entry e).slot = some n) :
    s.pendingEntries.Pairwise fun e k => (s.entry k).slot ≠ (s.entry e).slot := by
  refine s.pendingEntries_ascending.imp_of_mem fun {e k} he _ hlt hsame => ?_
  obtain ⟨n, hn⟩ := hslots e he
  exact hlt.ne (((State.storeConsistent_iff s).mp h).single e k n hn (hsame.trans hn))

/-- The PENDING entries become DONE after the relay queue is emptied, which is none of their slots (R188). -/
theorem State.entriesStopped_eq (h : s.StoreConsistent) (hlawful : ∀ e : EntryNo, (s.entry e).Lawful) :
    s.relayEmptied.entriesStopped = { s.relayEmptied with
      txDone := s.txDone ++ s.pendingEntries.map (s.doneReport .stopped)
      store := (s.store.leaveAll .relay s.relay.queue).leaveAll .entry
        (s.pendingEntries.filterMap fun e => (s.entry e).slot)
      entries := Vector.ofFn fun e =>
        if (s.entry e).state = .pending then .finished (s.entry e).attempts .stopped else s.entry e } := by
  have hslots (e : EntryNo) (he : e ∈ s.pendingEntries) : ∃ n, (s.entry e).slot = some n := by
    obtain ⟨hslot, -⟩ := hlawful e
    refine Option.isSome_iff_exists.mp (hslot.trans ?_)
    simp [HostEntry.holdsSlot, State.mem_pendingEntries.mp he]
  have hreport (e : EntryNo) (he : e ∈ s.pendingEntries) :
      s.relayEmptied.doneReport .stopped e = s.doneReport .stopped e := by
    obtain ⟨n, hn⟩ := hslots e he
    have hrelay : n ∉ s.relay.queue := ((State.storeConsistent_iff s).mp h).entry_notMem_relay hn
    exact State.doneReport_congr (s := s) (u := s.relayEmptied) rfl hn (s.store.slot_leaveAll_of_notMem .relay hrelay) .stopped
  have hdone := State.foldl_entryDone_eq (s := s.relayEmptied) .stopped hslots
    (State.pendingEntries_distinct (s := s) h hslots)
  rw [List.map_congr_left hreport] at hdone
  simp only [State.mem_pendingEntries] at hdone
  exact hdone

end

/-- Settles O26: the steps of `State.completeStop_eq`, with the entries that became DONE by `State.entriesStopped_eq`. -/
theorem stopCompletionSteps : Obligations.StopCompletionSteps := by
  intro s hstore hlawful stopped removed
  have hstopped : s.pendingEntries = stopped := by rw [State.pendingEntries, allEntries_eq]
  rw [State.completeStop_eq, State.entriesStopped_eq hstore hlawful, hstopped]
  rw [show s.relayEmptied.pendingEntries = stopped from hstopped]
  rfl

/-! ## Reports -/

/-- A RESET is its code byte alone (R190). -/
theorem requestOf_eq_reset_iff {body : List Byte} : requestOf body = some .reset ↔ body = [0x05#8] := by
  refine ⟨fun h => ?_, fun h => h ▸ requestOf_reset⟩
  cases body with
  | nil => simp [requestOf] at h
  | cons b fields =>
    simp only [requestOf] at h
    split at h
    · simp at h
    · next k hk =>
      obtain ⟨hfits, hreset⟩ := Option.ite_none_right_eq_some.mp h
      obtain rfl : k = .reset := Option.some.inj hreset
      have hnone : fields = [] := by
        rw [RequestCode.lengthFits_of_ne_send (by decide)] at hfits
        exact List.length_eq_zero_iff.mp (beq_iff_eq.mp hfits)
      rw [← RequestCode.byte_of_ofByte hk, hnone]
      rfl

/-- The reply that stands last is kept exactly where a RESET waits that the engine can execute (R194). -/
theorem State.markOvertaken_eq (s : State) :
    (¬ (∃ r rest, s.Ready r rest ∧ r.body = [0x05#8]) → s.markOvertaken = s) ∧
      ((∃ r rest, s.Ready r rest ∧ r.body = [0x05#8]) →
        s.markOvertaken = { s with engine := { s.engine with overtaken := s.line.replies.getLast? } }) := by
  constructor
  · intro hnone
    exact State.markOvertaken_none fun r rest hr hcode => hnone ⟨r, rest, hr, requestOf_eq_reset_iff.mp hcode⟩
  · rintro ⟨r, rest, hr, hbody⟩
    exact State.markOvertaken_ready hr (requestOf_eq_reset_iff.mpr hbody)

theorem StopRecord.isEmpty_iff (r : StopRecord) : r.isEmpty = true ↔ r.taps = [] ∧ r.trunk = false := by
  simp [StopRecord.isEmpty]

/-- A tap's report leaves nothing exactly where neither the port nor another tap has to report (R187). -/
theorem StopRecord.isEmpty_strikeTap (r : StopRecord) (t : TapNo) :
    ({ r with taps := r.taps.filter (· ≠ t) } : StopRecord).isEmpty = true ↔ r.trunk = false ∧ ∀ k ∈ r.taps, k = t := by
  simp [StopRecord.isEmpty_iff, List.filter_eq_nil_iff, and_comm]

/-- Settles O25: by what a report leaves of the record it is `State.report_left` or `State.report_last`, and by whether a RESET
waits the completion marks its reply (`State.markOvertaken_eq`). -/
theorem reportsCompleteStop : Obligations.ReportsCompleteStop := by
  intro s t done resetWaits kept
  refine ⟨fun hnone => ⟨State.report_none _ hnone, State.report_none _ hnone⟩, fun record hstop => ⟨fun hleft => ?_,
    fun htrunk htaps => ?_, fun htaps => ?_, fun htaps => ?_⟩⟩
  · refine State.report_left _ hstop (Bool.eq_false_iff.mpr fun hempty => ?_)
    obtain ⟨htrunk, htaps⟩ := (record.isEmpty_strikeTap t).mp hempty
    rcases hleft with htrue | ⟨k, hk, hne⟩
    · exact Bool.false_ne_true (htrunk.symm.trans htrue)
    · exact hne (htaps k hk)
  · have hlast : s.reportTap t = done.markOvertaken :=
      State.report_last _ hstop ((record.isEmpty_strikeTap t).mpr ⟨htrunk, htaps⟩)
    rw [hlast]
    exact done.markOvertaken_eq
  · exact State.report_left _ hstop (Bool.eq_false_iff.mpr fun hempty => htaps ((StopRecord.isEmpty_iff _).mp hempty).1)
  · have hlast : s.reportTrunk = done.markOvertaken :=
      State.report_last _ hstop ((StopRecord.isEmpty_iff _).mpr ⟨htaps, rfl⟩)
    rw [hlast]
    exact done.markOvertaken_eq

end Sys2Proof.Machine
end

section
/-! SUPPORT. The queue of commands: a step takes the one at its front, and no command touches those behind it. -/

namespace Sys2Proof.Machine

/-- With a command at the front of the queue, a step is its execution over the rest. -/
theorem step_cons {s : State} {c : Instr} {rest : List Instr} (h : s.pending = c :: rest) :
    step s = exec c { s with pending := rest } := by
  rw [step, h]

/-- Settles O1: the step is `step_cons`, and it is the step of the machine behind the host's interface. -/
theorem stepRunsFrontCommand : Obligations.StepRunsFrontCommand :=
  fun _ _ _ h => ⟨step_cons h, rfl⟩

section
variable (s : State) (r : Request)

/-! ## Operations -/

@[simp] theorem State.answer_pending (x : Status) (d : Byte) (result : List Byte) :
    (s.answer r x d result).pending = s.pending := s.produceReply_pending _ _ _

@[simp] theorem State.refuse_pending (x : Status) (d : Byte) : (s.refuse r x d).pending = s.pending :=
  s.answer_pending r x d []

theorem State.allocate_pending (i : IngressNo) (stamp : Word32) : (s.allocate i stamp).1.pending = s.pending := by
  rcases s.allocate_cases i stamp with ⟨_, h⟩ | ⟨_, _, -, -, h⟩ <;> rw [h]

@[simp] theorem State.trunkFrameStart_pending (stamp : Word32) : (s.trunkFrameStart stamp).pending = s.pending :=
  s.allocate_pending trunkIngress stamp

@[simp] theorem State.followWinner_pending : s.followWinner.pending = s.pending := by
  unfold State.followWinner
  split <;> simp

@[simp] theorem State.applySent_pending (c : Candidate) : (s.applySent c).pending = s.pending := by
  cases c with
  | relayHead => exact s.removeHead_pending
  | entry e => rfl

@[simp] theorem State.applyLost_pending (c : Candidate) : (s.applyLost c).pending = s.pending := by
  cases c <;> simp only [State.applyLost] <;> split <;> simp

@[simp] theorem State.applyFault_pending (c : Candidate) : (s.applyFault c).pending = s.pending := by
  cases c <;> simp only [State.applyFault] <;> split
  · simp
  · split <;> simp
  · simp
  · split <;> simp

@[simp] theorem State.modIngresses_pending (f : Ingress → Ingress) : (s.modIngresses f).pending = s.pending := by
  rw [State.modIngresses_eq]

theorem State.startNotice_pending : s.startNotice.pending = s.pending := by
  unfold State.startNotice
  split
  · rfl
  · rfl
  unfold State.startCapture
  split
  · split <;> rfl
  · rfl

theorem State.listenFrameEnd_pending (k : TapNo) (verdict : Verdict) :
    (s.listenFrameEnd k verdict).pending = s.pending := by
  cases verdict <;> rfl

theorem State.closingFrameEnd_pending (k : TapNo) : (s.closingFrameEnd k).pending = s.pending := by
  unfold State.closingFrameEnd
  dsimp only
  split <;> simp

theorem State.closeTap_pending (k : TapNo) : (s.closeTap r k).pending = s.pending := by
  unfold State.closeTap
  split
  · simp
  · simp
  · split <;> simp
  · simp [State.closeNow]

theorem State.pending_cancelEntry (e : EntryNo) : (s.cancelEntry r e).pending = s.pending := by
  unfold State.cancelEntry
  split <;> simp

theorem State.closeForStop_pending (k : TapNo) : (s.closeForStop k).pending = s.pending := by
  unfold State.closeForStop
  split <;> simp

theorem State.foldl_closeForStop_pending (ks : List TapNo) :
    (ks.foldl State.closeForStop s).pending = s.pending := by
  induction ks generalizing s with
  | nil => rfl
  | cons k ks ih => rw [List.foldl_cons, ih, State.closeForStop_pending]

theorem State.detachForStop_pending : s.detachForStop.pending = s.pending := by
  unfold State.detachForStop
  split <;> simp

/-! ## Requests -/

/-- A request whose checks lead to states with the queue as it was leaves the queue, refused or not (R158). -/
theorem State.afterCheck_pending {α : Type} {check : Except Refused α} {go : α → State}
    (hgo : ∀ a, (go a).pending = s.pending) : (s.afterCheck r check go).pending = s.pending := by
  unfold State.afterCheck
  split
  · exact s.refuse_pending r _ _
  · exact hgo _

/-- A request whose execution leaves the queue leaves it as a command. -/
theorem State.serve_pending {code : Option RequestCode} {act : Request → State → State}
    (hact : ∀ (r : Request) (u : State), (act r u).pending = u.pending) : (s.serve code act).pending = s.pending :=
  State.serve_cases (P := fun u => u.pending = s.pending) rfl fun r _ _ _ => hact r _

theorem State.runHello_pending : (s.runHello r).pending = s.pending := by
  rw [State.runHello_eq, State.answer_pending, State.sessionOpened]
  split <;> rfl

theorem State.runStatus_pending : (s.runStatus r).pending = s.pending := by
  unfold State.runStatus
  split
  · refine s.afterCheck_pending r fun subject => ?_
    cases subject <;> simp
  · rfl

theorem State.runStop_pending : (s.runStop r).pending = s.pending := by
  have hbegun : (s.beginStop r).pending = s.pending := by
    rw [State.beginStop_eq, State.allClosed, State.detachForStop_pending, State.foldl_closeForStop_pending]
    rfl
  unfold State.runStop
  split
  · exact hbegun
  · exact s.refuse_pending r _ _
  · exact s.answer_pending r _ _ _
  · exact s.answer_pending r _ _ _

theorem State.runCloseTap_pending : (s.runCloseTap r).pending = s.pending := by
  unfold State.runCloseTap
  split
  · exact s.afterCheck_pending r (s.closeTap_pending r)
  · rfl

theorem State.runCommit_pending : (s.runCommit r).pending = s.pending := by
  unfold State.runCommit
  split
  · refine s.afterCheck_pending r fun ingress => ?_
    cases ingress <;> simp
  · rfl

theorem State.runDiscardStaged_pending : (s.runDiscardStaged r).pending = s.pending := by
  unfold State.runDiscardStaged
  split
  · refine s.afterCheck_pending r fun ingress => ?_
    cases ingress <;> simp
  · rfl

theorem State.runCancel_pending : (s.runCancel r).pending = s.pending := by
  unfold State.runCancel
  split
  · exact s.afterCheck_pending r (s.pending_cancelEntry r)
  · rfl

theorem State.runDetach_pending : (s.runDetach r).pending = s.pending := by
  unfold State.runDetach
  split
  · simp
  split
  · simp
  split <;> simp

end

section
variable {s t : State}

theorem State.runSend_pending {r : Request} : s.runSend r = .next t → t.pending = s.pending := by
  have hnext {u : State} (hu : u.pending = s.pending) := of_next (P := fun t => t.pending = s.pending) (t := t) hu
  unfold State.runSend
  split
  · split
    · exact hnext (s.refuse_pending r _ _)
    · unfold State.sendFrame
      split
      · exact nofun
      · exact hnext (State.answer_pending _ r _ _ _)
  · exact hnext rfl

/-! ## Commands -/

/-- A command that answers a next state with the queue as it was. -/
theorem next_pending {u : State} (hu : u.pending = s.pending) :
    (Host.Outcome.next u : Host.Outcome State Fault Refusal) = .next t → t.pending = s.pending :=
  of_next (P := fun t => t.pending = s.pending) hu

/-- A condition decides between two states with the queue as it was. -/
theorem pending_ite {u v : State} {p : Prop} [Decidable p] (hu : u.pending = s.pending) (hv : v.pending = s.pending) :
    (if p then u else v).pending = s.pending := by
  split
  · exact hu
  · exact hv

theorem exec_tapEndOfFrame_pending {k : TapNo} {bits : List Level} :
    exec (.tapEndOfFrame k bits) s = .next t → t.pending = s.pending := by
  refine next_pending ?_
  split
  · split
    · rw [State.listenFrameEnd_pending, State.endFrame_pending]
    · rw [State.closingFrameEnd_pending, State.endFrame_pending]
    · rfl
    · rfl
  · rfl

theorem exec_trunkEndOfFrame_pending {bits : List Level} :
    exec (.trunkEndOfFrame bits) s = .next t → t.pending = s.pending := by
  refine next_pending ?_
  split
  · simp
  · rfl

theorem exec_transmitOpportunity_pending : exec .transmitOpportunity s = .next t → t.pending = s.pending := by
  refine next_pending (pending_ite ?_ rfl)
  split <;> rfl

theorem exec_outcomeSent_pending {read : List Level} : exec (.outcomeSent read) s = .next t → t.pending = s.pending := by
  refine next_pending ?_
  split
  · rfl
  · exact pending_ite (by simp) rfl

theorem exec_outcomeLost_pending {read : List Level} : exec (.outcomeLost read) s = .next t → t.pending = s.pending := by
  refine next_pending ?_
  split
  · rfl
  · exact pending_ite (by simp) rfl

theorem exec_outcomeFault_pending {read : List Level} :
    exec (.outcomeFault read) s = .next t → t.pending = s.pending := by
  refine next_pending ?_
  split
  · rfl
  · exact pending_ite (by simp) rfl

theorem exec_outboundChoice_pending : exec .outboundChoice s = .next t → t.pending = s.pending := by
  refine next_pending (pending_ite ?_ rfl)
  split
  · rfl
  · exact pending_ite s.startNotice_pending rfl

theorem exec_replyCompleted_pending {br1 br0 : Bool} :
    exec (.replyCompleted br1 br0) s = .next t → t.pending = s.pending := by
  refine next_pending (pending_ite ?_ rfl)
  split
  · exact pending_ite rfl rfl
  · rfl

theorem exec_txDoneCompleted_pending : exec .txDoneCompleted s = .next t → t.pending = s.pending := by
  refine next_pending (pending_ite ?_ rfl)
  split <;> rfl

theorem exec_send_pending : exec .send s = .next t → t.pending = s.pending := by
  rcases s.takeRequest_cases (some .send) with hnone | ⟨r, rest, -, -, htake⟩
  · simp only [exec, execSend, hnone]
    exact next_pending rfl
  · simp only [exec, execSend, htake]
    exact State.runSend_pending

/-- The requests that, their fields read and their checks passed, change the state by one write and answer. -/
theorem exec_checked_pending {c : Instr}
    (hc : c ∈ [Instr.setTap, .openTap, .setQuota, .setDefault, .readWindow, .setRelay, .setTrunk, .grant, .ack]) :
    exec c s = .next t → t.pending = s.pending := by
  simp only [List.mem_cons, List.not_mem_nil, or_false] at hc
  rcases hc with rfl | rfl | rfl | rfl | rfl | rfl | rfl | rfl | rfl
  all_goals
    refine next_pending (s.serve_pending fun r u => ?_)
    simp only [State.runSetTap, State.runOpenTap, State.runSetQuota, State.runSetDefault, State.runReadWindow,
      State.runSetRelay, State.runSetTrunk, State.runGrant, State.runAck]
    split
    · exact u.afterCheck_pending r fun _ => State.answer_pending _ r _ _ _
    · rfl

/-- Every command leaves the queue as it is, the resets included (log entry 25). -/
theorem exec_pending {c : Instr} : exec c s = .next t → t.pending = s.pending := by
  have hserve {code : Option RequestCode} {act : Request → State → State}
      (hact : ∀ (r : Request) (u : State), (act r u).pending = u.pending) :
      (Host.Outcome.next (s.serve code act) : Host.Outcome State Fault Refusal) = .next t → t.pending = s.pending :=
    next_pending (s.serve_pending hact)
  have hhunted (run : HunterRun) : (s.takeHunt run).pending = s.pending := s.takeHunt_pending run
  cases c with
  | powerReset br1 br0 => exact next_pending rfl
  | memoryCheckCompleted correct => exact next_pending (pending_ite rfl rfl)
  | tapStartOfFrame k => exact next_pending (pending_ite (s.allocate_pending (tapIngress k) s.stamp) rfl)
  | tapEndOfFrame k bits => exact exec_tapEndOfFrame_pending
  | tapIdleGap k | tapResynchronised k => exact next_pending (pending_ite rfl rfl)
  | trunkStartOfFrame => exact next_pending (pending_ite (s.trunkFrameStart_pending _) rfl)
  | trunkEndOfFrame bits => exact exec_trunkEndOfFrame_pending
  | trunkJoinIdleGap | trunkReceiverResync => exact next_pending (pending_ite rfl rfl)
  | transmitOpportunity => exact exec_transmitOpportunity_pending
  | outcomeSent read => exact exec_outcomeSent_pending
  | outcomeLost read => exact exec_outcomeLost_pending
  | outcomeFault read => exact exec_outcomeFault_pending
  | framingError | gapExpiry => exact next_pending (pending_ite rfl (hhunted _))
  | badLength | messageReceived => exact next_pending (pending_ite (hhunted _) rfl)
  | byteReceived byte => exact next_pending (pending_ite rfl (hhunted _))
  | lineBreak => exact next_pending (pending_ite rfl (pending_ite rfl rfl))
  | outboundChoice => exact exec_outboundChoice_pending
  | replyCompleted br1 br0 => exact exec_replyCompleted_pending
  | captureCompleted | eventCompleted => exact next_pending (pending_ite rfl rfl)
  | txDoneCompleted => exact exec_txDoneCompleted_pending
  | badRequest => exact hserve fun r u => u.refuse_pending r _ _
  | hello => exact hserve fun r u => u.runHello_pending r
  | status => exact hserve fun r u => u.runStatus_pending r
  | stop => exact hserve fun r u => u.runStop_pending r
  | reset => exact hserve fun r u => u.answer_pending r _ _ _
  | closeTap => exact hserve fun r u => u.runCloseTap_pending r
  | setTap | openTap | setQuota | setDefault | readWindow | setRelay | setTrunk | grant | ack =>
    exact exec_checked_pending (by decide)
  | start | setWindow | attach | resume =>
    exact hserve fun r u => u.afterCheck_pending r fun _ => State.answer_pending _ r _ _ _
  | commit => exact hserve fun r u => u.runCommit_pending r
  | discardStaged => exact hserve fun r u => u.runDiscardStaged_pending r
  | holdRelay | releaseRelay | flushRelay | resend | discardCaptures =>
    exact hserve fun r _ => State.answer_pending _ r _ _ _
  | send => exact exec_send_pending
  | cancel => exact hserve fun r u => u.runCancel_pending r
  | detach => exact hserve fun r u => u.runDetach_pending r

end

/-- Settles O3: `exec_pending`, command by command. -/
theorem commandsWaitUntouched : Obligations.CommandsWaitUntouched :=
  fun _ _ _ => exec_pending

end Sys2Proof.Machine
end
